-- ==== Sys2Proof/Word.lean ====
section
/-!
DEFINITION. The word types of the anemometer frame decoder: the byte (00_scope.md R8) and the character string of the
settings record and the host view (00_scope.md R10).
-/

namespace Sys2Proof

/-- A byte, 0..255, bit 7 the most significant (R8). -/
abbrev Byte := BitVec 8

/-- A sequence of ASCII characters (R10), held as the list of its characters. -/
abbrev Text := List Char

end Sys2Proof
end

