-- ==== Sys2Proof/Syntax.lean ====
section
/-!
DEFINITION. The data types of 10_state.md R23 to R28, the operations of spec/opcode_table.json as one inductive, and the
requests and caller actions by which operations are invoked (30_encoding.md R64, R69, R70).
-/

namespace Sys2Proof

/-- `DecVal` (R24): a decimal value, the pair of a mantissa 0..65535 and an exponent -128..127, denoting `m * 10^e`.
Equality is equality of pairs. -/
structure DecVal where
  /-- The mantissa, an unsigned integer. -/
  m : Nat
  /-- The exponent of ten, a signed integer. -/
  e : Int
  deriving DecidableEq, Repr

/-- `SettingsFlags` (R25): thirteen fields in the canonical order, each a character string. The closed set of strings of each
field is `SettingsFlags.inSets` (WellFormed.lean); a record outside it is the malformed record of R154. -/
structure SettingsFlags where
  mode : Text
  deg : Text
  mph : Text
  knot : Text
  ftMin : Text
  kmh : Text
  mS : Text
  max : Text
  min : Text
  avg : Text
  twoThird : Text
  cmmCfm : Text
  hold : Text
  deriving DecidableEq, Repr

/-- `DecodedReading` (R26): the whole output of a successful `DECODE_FRAME`. -/
structure DecodedReading where
  /-- Velocity or flow rate. -/
  primaryValue : DecVal
  /-- Temperature. -/
  secondaryValue : DecVal
  settings : SettingsFlags
  deriving DecidableEq, Repr

/-- `RxEvent` (R27): what one call of the transport's `receive` handed over. The length of the bytes is any. -/
inductive RxEvent where
  | bytes (s : List Byte)
  | timeout
  deriving DecidableEq, Repr

/-- `ProtocolError` (R28, R170): its one member. -/
inductive ProtocolError where
  | badLength
  deriving DecidableEq, Repr

/-- `Outcome` of one evaluation (R28): exactly one of a reading, the error, the end of the stream. -/
inductive DecodeOutcome where
  | reading (r : DecodedReading)
  | error (e : ProtocolError)
  | endOfStream
  deriving DecidableEq, Repr

/-- A binary floating-point datum, as far as R86 speaks of one: a finite number, or one of the other kinds of datum a binary
format has. The format stays open (log 10, PRESUMED: the other kinds are general knowledge). -/
inductive FloatDatum where
  | finite (value : Rat)
  | negZero
  | infinite (negative : Bool)
  | notANumber
  deriving DecidableEq, Repr, Inhabited

/-- The operations, one constructor per row of spec/opcode_table.json, with the operands of 30_encoding.md R69. -/
inductive Instr where
  /-- `READ_CURRENT` (R134): no operand. -/
  | readCurrent
  /-- `READ_RECORDS_START` (R135): no operand. -/
  | readRecordsStart
  /-- `DECODE_FRAME ev` (R130): one receive event. -/
  | decodeFrame (ev : RxEvent)
  /-- `DECODE_VALUE24 [b0,b1,b2]` (R80): one triplet, index 0 first. -/
  | decodeValue24 (b0 b1 b2 : Byte)
  /-- `EXTRACT_FLAGS b, c` (R100): the two flags bytes. -/
  | extractFlags (b c : Byte)
  /-- `PRIMARY_UNIT settings` (R150). -/
  | primaryUnit (settings : SettingsFlags)
  /-- `SECONDARY_UNIT settings` (R151). -/
  | secondaryUnit (settings : SettingsFlags)
  /-- `RENDER settings, min_width` (R152); the width is a natural number and is in no encoding. -/
  | render (settings : SettingsFlags) (minWidth : Nat)
  deriving DecidableEq, Repr

/-- The interface an operation is invoked on (R64): "selected by the interface they are invoked on, not by any bits". -/
inductive Iface where
  /-- Format `CMD` (R56). -/
  | cmd
  /-- Format `RSP` (R57), `rx_timeout = 0`: the bytes the transport delivered. -/
  | rx
  /-- The receive event with `rx_timeout = 1` (R29): no other input is read (R175). -/
  | rxTimeout
  /-- Format `TRIPLET` (R58). -/
  | decfp24
  /-- Format `FLAGPAIR` (R59, R60). -/
  | flagx
  /-- Format `SETTINGS` (R71) handed to `PRIMARY_UNIT`. -/
  | primaryUnit
  /-- Format `SETTINGS` (R71) handed to `SECONDARY_UNIT`. -/
  | secondaryUnit
  /-- Format `SETTINGS` (R71) and a width handed to `RENDER`. -/
  | render (minWidth : Nat)
  deriving DecidableEq, Repr

/-- An operation as it is invoked: the interface and the bytes on it, index 0 first (R55; log 3, DESIGN CHOICE). -/
structure Request where
  iface : Iface
  bytes : List Byte
  deriving DecidableEq, Repr

/-- Why a request denotes no operation of the block. Each is a refusal the spec asks for. -/
inductive Reject where
  /-- A command frame other than the two constants (R67, U11). Safe. -/
  | unknownCommand
  /-- `DECODE_VALUE24` on other than 3 bytes (R80, U8). Safe. -/
  | notATriplet
  /-- `EXTRACT_FLAGS` on other than 2 bytes (R100: two bytes). Safe. -/
  | notAFlagPair
  /-- Bytes that are no 14-bit settings vector (R71). Safe. -/
  | notASettingsVector
  /-- The settings code `0b01` of `cmm_cfm`, for which R25 has no string (U7). Safe. -/
  | settingsCodeNeverProduced
  deriving DecidableEq, Repr

/-- What the caller does (30_encoding.md R69, R70; 70_reset_and_hazards.md R208; log 17, DESIGN CHOICE). -/
inductive Action where
  /-- An operation invoked on operand bits written out. -/
  | invoke (r : Request)
  /-- The second half of `SEND`: hand `tx_data` to the transport's `send`. -/
  | send
  /-- `RECV -> ev`: call the transport's `receive`; the caller holds the event from then on. -/
  | recv
  /-- `DECODE_FRAME ev` on an event the caller holds: the one received `back` receives before its last, 0 being the last. -/
  | decodeReceived (back : Nat)
  /-- `PRIMARY_UNIT out.settings` on the block's present reading. -/
  | primaryUnitOfReading
  /-- `SECONDARY_UNIT out.settings` on the block's present reading. -/
  | secondaryUnitOfReading
  /-- `RENDER out.settings, w` on the block's present reading. -/
  | renderReading (minWidth : Nat)
  /-- `READ_ALL` begins a list of its own, empty (R70 does not say what it starts from; log 17, DESIGN CHOICE). -/
  | newList
  /-- The end of one round of `READ_ALL`'s loop: stop at the end of the stream, else append the outcome and go round. -/
  | collect
  /-- A rising edge of `clk` with the given `rst` (R196, `OUT_REG = 1`). -/
  | clockEdge (rst : Bool)
  deriving DecidableEq, Repr

/-- An interaction on which R208 lays a duty of order: the two calls of the transport (R176), with what came back, and a receive event handed
to `DECODE_FRAME`. A receive event is named by the number of its receive in the run, 0 the first: two receives may answer alike.
`DECODE_FRAME` invoked on an operand written out hands over no receive event and is none of these (DEDUCED, log 28). -/
inductive Interaction where
  | send (frame : BitVec 64)
  | receive (timeoutMs : Nat) (answer : RxEvent)
  | evaluate (receive : Nat) (ev : RxEvent)
  deriving DecidableEq, Repr

end Sys2Proof
end

