-- ==== Sys2Proof/Config.lean ====
section
/-!
DEFINITION. The parameters of 00_scope.md R6 (fixed) and R7 (open), the strings of 10_state.md R25, and the free values: opaque
constants without a body, so that nothing can be proved of the value they take.
-/

namespace Sys2Proof.Config

/-- `FRAME_LEN` (R6): bytes in a frame. -/
def frameLen : Nat := 8
/-- `TRIPLET_LEN` (R6): bytes in one encoded value. -/
def tripletLen : Nat := 3
/-- `EXP_BASE` (R6): the base the exponent applies to. -/
def expBase : Nat := 10
/-- `N_FIELDS` (R6): fields of the settings record. -/
def nFields : Nat := 13
/-- `PRI_OFF` (R6): frame index of the first byte of the primary value. -/
def priOff : Nat := 2
/-- `SEC_OFF` (R6): frame index of the first byte of the secondary value. -/
def secOff : Nat := 5

/-! ### The strings of R25 -/

def txtVEL : Text := "VEL".toList
def txtFLOW : Text := "FLOW".toList
def txtC : Text := "C".toList
def txtF : Text := "F".toList
def txtMph : Text := "mph".toList
def txtKnot : Text := "knot".toList
def txtFtMin : Text := "ft/min".toList
def txtKmh : Text := "km/h".toList
def txtMS : Text := "m/s".toList
def txtMax : Text := "max".toList
def txtMin : Text := "min".toList
def txtAvg : Text := "avg".toList
def txtTwoThird : Text := "2/3".toList
def txtCFM : Text := "CFM".toList
def txtCMM : Text := "CMM".toList
def txtHold : Text := "hold".toList

/-! ### Open parameters (R7) -/

/-- `FLOAT_RENDER` (R86, U1) off the three pairs the spec gives: an uninterpreted function of the pair (log 10). The parameter
itself is `Sys2Proof.Machine.floatRender`. -/
opaque floatRenderOther : DecVal → FloatDatum

/-- One less than `RX_TIMEOUT_MS`: the spec gives a positive integer and no value (R7, D23; log 15). -/
opaque rxTimeoutMsPred : Nat

/-- `RX_TIMEOUT_MS` (R7): a positive integer, otherwise unconstrained. -/
def rxTimeoutMs : Nat := rxTimeoutMsPred + 1

/-! ### Free values, a fresh draw each time (log 7, log 8) -/

/-- `pri_mant` when `ok = 0` (R30, U2). -/
opaque freePriMant : Nat → BitVec 16
/-- `pri_exp` when `ok = 0` (R30, U2). -/
opaque freePriExp : Nat → BitVec 8
/-- `sec_mant` when `ok = 0` (R30, U2). -/
opaque freeSecMant : Nat → BitVec 16
/-- `sec_exp` when `ok = 0` (R30, U2). -/
opaque freeSecExp : Nat → BitVec 8
/-- `settings` when `ok = 0` (R30, U2). -/
opaque freeSettings : Nat → BitVec 14
/-- `pri_float` when `ok = 0` (R30, U2). -/
opaque freePriFloat : Nat → FloatDatum
/-- `sec_float` when `ok = 0` (R30, U2). -/
opaque freeSecFloat : Nat → FloatDatum
/-- `rx_len` when `rx_timeout = 1` (R29, U6). -/
opaque freeRxLen : Nat → Nat

end Sys2Proof.Config
end

