-- ==== Sys2Proof/WellFormed.lean ====
section
/-!
DEFINITION. When an instruction is well formed: its settings record, where it has one, is one of the 2176 records the block
produces (41_flags_extractor.md R117). Every other operand is well formed at every value (30_encoding.md R66).
A meaning does not check this (43_formatter.md R154): the host functions compute on malformed records too.
-/

namespace Sys2Proof

open Config

/-- Every field holds a string of its closed set (R25). -/
def SettingsFlags.inSets (r : SettingsFlags) : Bool :=
  (r.mode == txtVEL || r.mode == txtFLOW)
  && (r.deg == txtC || r.deg == txtF)
  && (r.mph == txtMph || r.mph == [])
  && (r.knot == txtKnot || r.knot == [])
  && (r.ftMin == txtFtMin || r.ftMin == [])
  && (r.kmh == txtKmh || r.kmh == [])
  && (r.mS == txtMS || r.mS == [])
  && (r.max == txtMax || r.max == [])
  && (r.min == txtMin || r.min == [])
  && (r.avg == txtAvg || r.avg == [])
  && (r.twoThird == txtTwoThird || r.twoThird == [])
  && (r.cmmCfm == txtCFM || r.cmmCfm == txtCMM || r.cmmCfm == [])
  && (r.hold == txtHold || r.hold == [])

/-- The gate of R115: in VEL mode `cmm_cfm` is empty; in FLOW mode the five unit fields are empty and `cmm_cfm` is not. -/
def SettingsFlags.gated (r : SettingsFlags) : Bool :=
  if r.mode == txtVEL then r.cmmCfm == []
  else r.mph == [] && r.knot == [] && r.ftMin == [] && r.kmh == [] && r.mS == [] && r.cmmCfm != []

/-- The records the block can produce (R117); the others are malformed (R154). -/
def SettingsFlags.reachable (r : SettingsFlags) : Bool := r.inSets && r.gated

/-- An instruction whose operand is one the block or its caller can hand over. -/
def wellFormed : Instr → Bool
  | .readCurrent => true
  | .readRecordsStart => true
  | .decodeFrame _ => true
  | .decodeValue24 _ _ _ => true
  | .extractFlags _ _ => true
  | .primaryUnit r => r.reachable
  | .secondaryUnit r => r.reachable
  | .render r _ => r.reachable

end Sys2Proof
end

