-- ==== Sys2Proof/Decode.lean ====
section
/-!
DEFINITION. From bits to operations and back: the byte and bit layout of 30_encoding.md R55 to R60 and R71, the decoder (total on
any bytes, rejecting by name), the encoder, and `decodeTableWord` on the bits of spec/opcode_table.json.
-/

namespace Sys2Proof

open Config

/-! ### Bytes and bit fields -/

/-- The `n` low bytes of a number, the most significant first: index 0 is the leftmost byte (R55, decision D4). -/
def bytesOfNat : Nat → Nat → List Byte
  | 0, _ => []
  | n + 1, w => bytesOfNat n (w / 256) ++ [BitVec.ofNat 8 w]

/-- The number a byte sequence spells, index 0 the most significant byte. -/
def natOfBytes (bs : List Byte) : Nat :=
  bs.foldl (fun acc b => 256 * acc + b.toNat) 0

/-- The 64-bit word of a frame: `frame[i]` at bits `63-8*i : 56-8*i` (R29, R30). -/
def wordOfFrame (bs : List Byte) : BitVec 64 := BitVec.ofNat 64 (natOfBytes bs)

/-- The command frame `READ_CURRENT` (R134). -/
def readCurrentFrame : List Byte := [0xB3#8, 0#8, 0#8, 0#8, 0#8, 0#8, 0#8, 0#8]

/-- The command frame `READ_RECORDS_START` (R135). -/
def readRecordsStartFrame : List Byte := [0xC4#8, 0#8, 0#8, 0#8, 0#8, 0#8, 0#8, 0#8]

/-! ### The packed settings vector (R25, R71) -/

/-- The 14-bit vector of the field codes, `mode` at bit 13 down to `hold` at bit 0 (R25); `cmm_cfm` has two, populated and CFM (R71). -/
def settingsVector (mode deg mph knot ftMin kmh mS max min avg twoThird populated cfm hold : Bool) : BitVec 14 :=
  BitVec.ofBoolListBE [mode, deg, mph, knot, ftMin, kmh, mS, max, min, avg, twoThird, populated, cfm, hold]

/-- The 14-bit vector of a record (R25). On a field that holds a string outside its set, where R25 has no code, the code 0 stands
(log 19). -/
def packSettings (r : SettingsFlags) : BitVec 14 :=
  settingsVector (r.mode == txtVEL) (r.deg == txtC) (r.mph == txtMph) (r.knot == txtKnot) (r.ftMin == txtFtMin) (r.kmh == txtKmh)
    (r.mS == txtMS) (r.max == txtMax) (r.min == txtMin) (r.avg == txtAvg) (r.twoThird == txtTwoThird)
    (r.cmmCfm == txtCFM || r.cmmCfm == txtCMM) (r.cmmCfm == txtCFM) (r.hold == txtHold)

/-- `t` if the code bit is 1, else `f` (the two-valued fields of R25). -/
def textIf (code : Bool) (t f : Text) : Text := if code then t else f

/-- The string of the two-bit code of `cmm_cfm` (R25): `0b01` has none. -/
def cmmCfmOfCode : Bool → Bool → Option Text
  | false, false => some []
  | true, false => some txtCMM
  | true, true => some txtCFM
  | false, true => none

/-- The record of a 14-bit vector, field by field (R25); none where `cmm_cfm`'s code is `0b01` (U7). -/
def unpackSettings (v : BitVec 14) : Option SettingsFlags :=
  (cmmCfmOfCode (v.getLsbD 2) (v.getLsbD 1)).map fun cmmCfm =>
    { mode := textIf (v.getLsbD 13) txtVEL txtFLOW
      deg := textIf (v.getLsbD 12) txtC txtF
      mph := textIf (v.getLsbD 11) txtMph []
      knot := textIf (v.getLsbD 10) txtKnot []
      ftMin := textIf (v.getLsbD 9) txtFtMin []
      kmh := textIf (v.getLsbD 8) txtKmh []
      mS := textIf (v.getLsbD 7) txtMS []
      max := textIf (v.getLsbD 6) txtMax []
      min := textIf (v.getLsbD 5) txtMin []
      avg := textIf (v.getLsbD 4) txtAvg []
      twoThird := textIf (v.getLsbD 3) txtTwoThird []
      cmmCfm := cmmCfm
      hold := textIf (v.getLsbD 0) txtHold [] }

/-- The two bytes that carry a settings vector, bits 15 and 14 zero (log 22, DESIGN CHOICE). -/
def settingsBytes (v : BitVec 14) : List Byte := bytesOfNat 2 v.toNat

/-! ### The decoder -/

/-- The record on a `SETTINGS` interface, or why there is none. -/
def decodeSettings : List Byte → Except Reject SettingsFlags
  | [hi, lo] =>
    if natOfBytes [hi, lo] < 2 ^ 14 then
      match unpackSettings (BitVec.ofNat 14 (natOfBytes [hi, lo])) with
      | some r => .ok r
      | none => .error .settingsCodeNeverProduced
    else .error .notASettingsVector
  | _ => .error .notASettingsVector

/-- The command a `CMD` frame denotes (R64, R67). -/
def decodeCommand (bs : List Byte) : Except Reject Instr :=
  if bs = readCurrentFrame then .ok .readCurrent
  else if bs = readRecordsStartFrame then .ok .readRecordsStart
  else .error .unknownCommand

/-- The operation a `TRIPLET` interface carries (R58). -/
def decodeTriplet : List Byte → Except Reject Instr
  | [b0, b1, b2] => .ok (.decodeValue24 b0 b1 b2)
  | _ => .error .notATriplet

/-- The operation a `FLAGPAIR` interface carries (R59, R60). -/
def decodeFlagPair : List Byte → Except Reject Instr
  | [b, c] => .ok (.extractFlags b c)
  | _ => .error .notAFlagPair

/-- The opcode map (R64): the interface selects the operation, and only a command frame has an opcode in its bits. Any byte
sequence on the receive interface is given to `DECODE_FRAME`, whatever its length (R66, R68). -/
def decode (r : Request) : Except Reject Instr :=
  match r.iface with
  | .cmd => decodeCommand r.bytes
  | .rx => .ok (.decodeFrame (.bytes r.bytes))
  | .rxTimeout => .ok (.decodeFrame .timeout)
  | .decfp24 => decodeTriplet r.bytes
  | .flagx => decodeFlagPair r.bytes
  | .primaryUnit => (decodeSettings r.bytes).map .primaryUnit
  | .secondaryUnit => (decodeSettings r.bytes).map .secondaryUnit
  | .render w => (decodeSettings r.bytes).map fun s => .render s w

/-! ### The encoder -/

/-- The interface an operation is invoked on (R64). -/
def ifaceOf : Instr → Iface
  | .readCurrent => .cmd
  | .readRecordsStart => .cmd
  | .decodeFrame (.bytes _) => .rx
  | .decodeFrame .timeout => .rxTimeout
  | .decodeValue24 _ _ _ => .decfp24
  | .extractFlags _ _ => .flagx
  | .primaryUnit _ => .primaryUnit
  | .secondaryUnit _ => .secondaryUnit
  | .render _ w => .render w

/-- The bytes of an operation in its format (R55 to R60, R71). -/
def bytesOf : Instr → List Byte
  | .readCurrent => readCurrentFrame
  | .readRecordsStart => readRecordsStartFrame
  | .decodeFrame (.bytes s) => s
  | .decodeFrame .timeout => []
  | .decodeValue24 b0 b1 b2 => [b0, b1, b2]
  | .extractFlags b c => [b, c]
  | .primaryUnit s => settingsBytes (packSettings s)
  | .secondaryUnit s => settingsBytes (packSettings s)
  | .render s _ => settingsBytes (packSettings s)

/-- The request that invokes an operation. -/
def encode (i : Instr) : Request := { iface := ifaceOf i, bytes := bytesOf i }

/-- The request by which a receive event reaches `DECODE_FRAME` (R29, R208). -/
def requestOfEvent : RxEvent → Request
  | .bytes s => { iface := .rx, bytes := s }
  | .timeout => { iface := .rxTimeout, bytes := [] }

/-! ### The bits of spec/opcode_table.json -/

/-- The request of `nbits` bits `w`, numbered as the opcode table numbers them (bit 63 of a frame is bit 7 of `frame[0]`). The table
gives the rows of one width no bits that tell them apart (R64), so the width chooses: 64 bits are a command frame where they are
one of the two constants and a response frame otherwise, 24 a triplet, 16 a flag pair, 14 a settings vector for `PRIMARY_UNIT`, and
any other width a received sequence of that many bytes (log 4, DESIGN CHOICE). -/
def tableRequest (nbits w : Nat) : Request :=
  if nbits = 64 then
    if bytesOfNat 8 w = readCurrentFrame ∨ bytesOfNat 8 w = readRecordsStartFrame then
      { iface := .cmd, bytes := bytesOfNat 8 w }
    else { iface := .rx, bytes := bytesOfNat 8 w }
  else if nbits = 24 then { iface := .decfp24, bytes := bytesOfNat 3 w }
  else if nbits = 16 then { iface := .flagx, bytes := bytesOfNat 2 w }
  else if nbits = 14 then { iface := .primaryUnit, bytes := bytesOfNat 2 w }
  else { iface := .rx, bytes := bytesOfNat ((nbits + 7) / 8) w }

/-- The instruction the decoder reads from the table bits `w` of width `nbits`; none where it refuses. -/
def decodeTableWord (nbits w : Nat) : Option Instr :=
  match decode (tableRequest nbits w) with
  | .ok i => some i
  | .error _ => none

end Sys2Proof
end

