-- ==== Sys2Proof/Machine/State.lean ====
section
/-!
DEFINITION. The state of a run of the anemometer frame decoder as plain data. The block itself stores nothing (10_state.md R20);
the fields are its interface signals (R29 to R31), the output register of `OUT_REG = 1` (70_reset_and_hazards.md R196), the frame
buffer (20_memory.md R35), the host view's results (43_formatter.md), and the caller's and the environment's side of a run
(00_scope.md R12; log 1).
-/

namespace Sys2Proof.Machine

/-- The frame buffer (R35): the bytes of the delivered sequence by index, at most 8, the indices rising. An index that is not listed
holds no value (log 9). -/
abbrev Memory := List Host.Cell

/-- The canonical form: indices strictly rising, all below 8 (R35). Nothing listed equals what an unlisted index reads as, since
that is no value. -/
def Memory.wf : Memory → Bool
  | [] => true
  | [(a, _)] => decide (a < Config.frameLen)
  | (a, _) :: (b, v) :: rest => decide (a < b) && Memory.wf ((b, v) :: rest)

/-- The outputs of `anemo_frame_decoder` but `tx_data` (R30); also what the output register holds (R196). -/
structure Outputs where
  /-- The outcome is a reading. -/
  ok : Bool
  /-- The outcome is the error `BadLength`. -/
  errBadLength : Bool
  /-- The outcome is the end of the stream. -/
  endOfStream : Bool
  priMant : BitVec 16
  /-- Two's complement. -/
  priExp : BitVec 8
  secMant : BitVec 16
  /-- Two's complement. -/
  secExp : BitVec 8
  /-- Packed as in R25. -/
  settings : BitVec 14
  /-- The further output of an instantiated `FLOAT_RENDER` (R30). -/
  priFloat : FloatDatum
  /-- The further output of an instantiated `FLOAT_RENDER` (R30). -/
  secFloat : FloatDatum
  deriving DecidableEq, Repr

/-- The signals of a value decoder `decfp24` invoked by itself (R31; log 24). -/
structure Decfp24 where
  t : BitVec 24
  mant : BitVec 16
  exp : BitVec 8
  deriving DecidableEq, Repr

/-- The signals of the flags extractor `flagx` invoked by itself (R31; log 24). -/
structure Flagx where
  b : Byte
  c : Byte
  settings : BitVec 14
  deriving DecidableEq, Repr

/-- Everything a run moves through, as plain data. -/
structure State where
  /-- Input `rx_timeout` (R29). -/
  rxTimeout : Bool
  /-- Input `rx_len` (R29), a natural number (`LENW` is open, log 14). -/
  rxLen : Nat
  /-- Input `rx_data` (R29), as the frame buffer it fills (R35). -/
  frame : Memory
  /-- Input `cmd_sel` (R29): false is 0, `READ_CURRENT`. -/
  cmdSel : Bool
  /-- The parameter `OUT_REG` (R7): true is 1, an output register is wrapped around the block. No step changes it (log 12). -/
  outRegPresent : Bool
  /-- Input `rst` (R196), as of the last clock edge. -/
  rst : Bool
  /-- The outputs of R30 but `tx_data`. -/
  out : Outputs
  /-- Output `tx_data` (R30). -/
  txData : BitVec 64
  /-- The output register of `OUT_REG = 1` (R196). -/
  outReg : Outputs
  /-- A value decoder invoked by itself (R31). -/
  decfp24 : Decfp24
  /-- The flags extractor invoked by itself (R31). -/
  flagx : Flagx
  /-- The string `PRIMARY_UNIT` gave last (R150). -/
  primaryUnit : Text
  /-- The string `SECONDARY_UNIT` gave last (R151). -/
  secondaryUnit : Text
  /-- The string `RENDER` gave last (R152). -/
  rendered : Text
  /-- The caller's actions not yet taken, oldest first (R207, R208; log 2). -/
  pending : List Action
  /-- The events the caller holds from its `RECV`s (R69), the last one first. -/
  received : List RxEvent
  /-- What the environment will answer to the coming receives (R12; log 16). -/
  answers : List RxEvent
  /-- The sends, the receives and the evaluations of received events of the run so far, oldest first (R44, R176, R208; log 17). -/
  history : List Interaction
  /-- The list `READ_ALL` has gathered (R70). -/
  collected : List DecodeOutcome
  /-- The MODEL's own: how many free values have been drawn (log 7). -/
  freeDraws : Nat
  deriving DecidableEq, Repr

/-- Why the machine stops with a fault. -/
inductive Fault where
  /-- A `MemRead(i, n)` outside its domain (R10: the frame has length 8 and `i + n <= 8`), raised by the frame decoder's reads. Safe;
  no instruction reaches it (R41). -/
  | frameRead (i n : Nat)
  deriving DecidableEq, Repr

/-- Why a step refuses. -/
inductive Refusal where
  /-- An instruction without a meaning; raised by `exec` alone. Safe. No arm raises it. -/
  | notModelled (mnemonic : String)
  /-- A request that denotes no operation (U7, U8, U11); raised by `step`. Safe. -/
  | undecodable (why : Reject)
  /-- The caller acts on a reading while the `ok` it sees is 0, or on an outcome that is not there (R199, U2); raised by `step`. Safe. -/
  | noReading
  /-- The caller decodes a received event that it has not received; raised by `step`. Safe. -/
  | nothingReceived
  deriving DecidableEq, Repr

/-- The data outputs and flags right after reset with the flags given; the data are unspecified (R33, R196; log 6, DESIGN CHOICE 0). -/
def Outputs.atReset (errBadLength : Bool) : Outputs :=
  { ok := false, errBadLength := errBadLength, endOfStream := false
    priMant := 0, priExp := 0, secMant := 0, secExp := 0, settings := 0
    priFloat := .finite 0, secFloat := .finite 0 }

/-- Right after reset. The inputs are the model's (log 5); the flags, `tx_data` and the sub-blocks' outputs are the function of the
inputs (R195); the output register's flags are 0 (R196); `OUT_REG` has its default 0 (R7). The spec gives the environment no law and no
state at reset (R12, R32): that `answers` is empty, so that a receive of a run from here answers `Timeout`, is the model's (log 16,
DESIGN CHOICE), and so is that the caller's fields are empty (log 2, log 17, log 25, DESIGN CHOICE). -/
def State.reset : State :=
  { rxTimeout := false, rxLen := 0, frame := [], cmdSel := false, outRegPresent := false, rst := false
    out := Outputs.atReset true
    txData := 0xB300000000000000#64
    outReg := Outputs.atReset false
    decfp24 := { t := 0, mant := 0, exp := 0 }
    flagx := { b := 0, c := 0, settings := 0x0004#14 }
    primaryUnit := [], secondaryUnit := [], rendered := []
    pending := [], received := [], answers := [], history := [], collected := []
    freeDraws := 0 }

end Sys2Proof.Machine
end

