-- ==== Sys2Proof/Machine/Flags.lean ====
section
/-!
DEFINITION. The thirteen settings fields (41_flags_extractor.md): the pseudocode of R100 field by field, and the table of R118 with
its reading.
-/

namespace Sys2Proof.Machine

open Config

/-- The condition "`mask & v`" (R8): true exactly when the result is not zero. -/
def testMask (mask v : Byte) : Bool := (mask &&& v) != 0#8

/-- R101, field 1. -/
def fieldMode (b : Byte) : Text := if testMask 0x80#8 b then txtVEL else txtFLOW
/-- R102, field 2. -/
def fieldDeg (b : Byte) : Text := if testMask 0x20#8 b then txtC else txtF
/-- A velocity-unit field (R103 to R107): its own bit, and the mode is VEL (R115). -/
def fieldUnit (mode : Text) (mask b : Byte) (t : Text) : Text := if testMask mask b && mode == txtVEL then t else []
/-- A field of one bit of byte 1 (R108 to R111, R113). -/
def fieldPlain (mask c : Byte) (t : Text) : Text := if testMask mask c then t else []
/-- R112, field 12: forced empty in VEL mode. -/
def fieldCmmCfm (mode : Text) (c : Byte) : Text :=
  if mode == txtVEL then [] else if testMask 0x08#8 c then txtCFM else txtCMM

/-- `EXTRACT_FLAGS` (R100): the thirteen fields in the canonical order. -/
def extractFlags (b c : Byte) : SettingsFlags :=
  let mode := fieldMode b
  { mode := mode
    deg := fieldDeg b
    mph := fieldUnit mode 0x10#8 b txtMph
    knot := fieldUnit mode 0x08#8 b txtKnot
    ftMin := fieldUnit mode 0x04#8 b txtFtMin
    kmh := fieldUnit mode 0x02#8 b txtKmh
    mS := fieldUnit mode 0x01#8 b txtMS
    max := fieldPlain 0x80#8 c txtMax
    min := fieldPlain 0x40#8 c txtMin
    avg := fieldPlain 0x20#8 c txtAvg
    twoThird := fieldPlain 0x10#8 c txtTwoThird
    cmmCfm := fieldCmmCfm mode c
    hold := fieldPlain 0x02#8 c txtHold }

/-- The packed vector as the Boolean equations of R114. -/
def settingsEquations (b c : Byte) : BitVec 14 :=
  settingsVector (b.getLsbD 7) (b.getLsbD 5)
    (b.getLsbD 7 && b.getLsbD 4) (b.getLsbD 7 && b.getLsbD 3) (b.getLsbD 7 && b.getLsbD 2) (b.getLsbD 7 && b.getLsbD 1)
    (b.getLsbD 7 && b.getLsbD 0)
    (c.getLsbD 7) (c.getLsbD 6) (c.getLsbD 5) (c.getLsbD 4)
    (!b.getLsbD 7) (!b.getLsbD 7 && c.getLsbD 3) (c.getLsbD 1)

/-! ### The table of R118 -/

/-- The precondition column of R118. -/
inductive Precondition where
  | none
  | modeIsVel
  | modeIsFlow
  deriving DecidableEq, Repr

/-- One row of R118. -/
structure FlagRow where
  mask : Byte
  byteIndex : Nat
  trueValue : Text
  falseValue : Text
  precondition : Precondition
  deriving DecidableEq, Repr

/-- The thirteen rows of R118, in the canonical order. -/
def flagTable : List FlagRow :=
  [{ mask := 0x80#8, byteIndex := 0, trueValue := txtVEL, falseValue := txtFLOW, precondition := .none },
   { mask := 0x20#8, byteIndex := 0, trueValue := txtC, falseValue := txtF, precondition := .none },
   { mask := 0x10#8, byteIndex := 0, trueValue := txtMph, falseValue := [], precondition := .modeIsVel },
   { mask := 0x08#8, byteIndex := 0, trueValue := txtKnot, falseValue := [], precondition := .modeIsVel },
   { mask := 0x04#8, byteIndex := 0, trueValue := txtFtMin, falseValue := [], precondition := .modeIsVel },
   { mask := 0x02#8, byteIndex := 0, trueValue := txtKmh, falseValue := [], precondition := .modeIsVel },
   { mask := 0x01#8, byteIndex := 0, trueValue := txtMS, falseValue := [], precondition := .modeIsVel },
   { mask := 0x80#8, byteIndex := 1, trueValue := txtMax, falseValue := [], precondition := .none },
   { mask := 0x40#8, byteIndex := 1, trueValue := txtMin, falseValue := [], precondition := .none },
   { mask := 0x20#8, byteIndex := 1, trueValue := txtAvg, falseValue := [], precondition := .none },
   { mask := 0x10#8, byteIndex := 1, trueValue := txtTwoThird, falseValue := [], precondition := .none },
   { mask := 0x08#8, byteIndex := 1, trueValue := txtCFM, falseValue := txtCMM, precondition := .modeIsFlow },
   { mask := 0x02#8, byteIndex := 1, trueValue := txtHold, falseValue := [], precondition := .none }]

/-- Whether a precondition holds of the first field's value. -/
def Precondition.holds (p : Precondition) (mode : Text) : Bool :=
  match p with
  | .none => true
  | .modeIsVel => mode == txtVEL
  | .modeIsFlow => mode == txtFLOW

/-- A row's field value: "When the precondition fails the field is empty and neither value column applies" (R118). -/
def FlagRow.value (row : FlagRow) (mode : Text) (b c : Byte) : Text :=
  if row.precondition.holds mode then
    if testMask row.mask (if row.byteIndex = 0 then b else c) then row.trueValue else row.falseValue
  else []

/-- The thirteen field values by the table (R118), the mode read from its first row. -/
def fieldsByTable (b c : Byte) : List Text :=
  flagTable.map fun row => row.value (fieldMode b) b c

end Sys2Proof.Machine
end

