-- ==== Sys2Proof/Machine/Operands.lean ====
section
/-!
DEFINITION. Operand assembly (30_encoding.md R61, R62), the decimal value of a triplet (40_decfp24.md R80 to R86) and its binary
rendering.
-/

namespace Sys2Proof.Machine

/-- `sext_8` (R10, R62): the two's-complement reading of a byte; the test is "`b2 > 127`". -/
def sext8 (v : Byte) : Int := if v.toNat > 127 then (v.toNat : Int) - 256 else v.toNat

/-- The mantissa (R61): `256*b0 + b1`, the byte at the lower index the more significant (R38). -/
def mantissa (b0 b1 : Byte) : Nat := 256 * b0.toNat + b1.toNat

/-- `DECODE_VALUE24` (R80): the pair of a triplet. -/
def decodeValue24 (b0 b1 b2 : Byte) : DecVal := { m := mantissa b0 b1, e := sext8 b2 }

/-- `mant[15:0]` of a value (R31). -/
def mantBits (v : DecVal) : BitVec 16 := BitVec.ofNat 16 v.m

/-- `exp[7:0]` of a value (R31), two's complement. -/
def expBits (v : DecVal) : BitVec 8 := BitVec.ofInt 8 v.e

/-- The value a consumer reads from the two signals (R30): the mantissa unsigned, the exponent two's complement. -/
def valueOfSignals (mant : BitVec 16) (exp : BitVec 8) : DecVal := { m := mant.toNat, e := exp.toInt }

/-- `val(m, e) = m * 10^e` (R24, R84), the exact rational denoted. -/
def denoted (v : DecVal) : Rat := (v.m : Rat) * (Config.expBase : Rat) ^ v.e

/-- `FLOAT_RENDER` (R86): a total function of the pair alone, with the three documented values as its only law; every other value is
uninterpreted (log 10). -/
def floatRender (v : DecVal) : FloatDatum :=
  if v = { m := 256, e := 0 } then .finite 256
  else if v = { m := 10, e := 2 } then .finite 1000
  else if v = { m := 5, e := -1 } then .finite (mkRat 1 2)
  else Config.floatRenderOther v

/-- What a model may assume of an instance of `FLOAT_RENDER` (R86). -/
def FloatRenderLaws (f : DecVal → FloatDatum) : Prop :=
  f { m := 256, e := 0 } = .finite 256 ∧ f { m := 10, e := 2 } = .finite 1000 ∧ f { m := 5, e := -1 } = .finite (mkRat 1 2)

/-- `num / den` as a natural number, rounded to nearest, ties to even. -/
def roundHalfEven (num den : Nat) : Nat :=
  let q := num / den
  let r := num % den
  if 2 * r < den then q else if den < 2 * r then q + 1 else q + q % 2

/-- The quotient `num / den` scaled by `2^(-k)`, as a pair of naturals. -/
def scalePow2 (num den : Nat) (k : Int) : Nat × Nat :=
  match k with
  | .ofNat j => (num, den * 2 ^ j)
  | .negSucc j => (num * 2 ^ (j + 1), den)

/-- The positive number `num / den` rounded once to 53 significant bits, to nearest, ties to even. -/
def roundTo53 (num den : Nat) : Rat :=
  let k0 : Int := (Nat.log2 num : Int) - Nat.log2 den - 52
  let p0 := scalePow2 num den k0
  let k := if p0.1 / p0.2 < 2 ^ 52 then k0 - 1 else k0
  let p := scalePow2 num den k
  let q := roundHalfEven p.1 p.2
  match k with
  | .ofNat j => ((q * 2 ^ j : Nat) : Rat)
  | .negSucc j => mkRat q (2 ^ (j + 1))

/-- The recommended instance of `FLOAT_RENDER` (R7, R86): binary64, the exact rational rounded once to nearest even. Every value lies in
the normal range (R86), so no datum but a finite one arises. The model does not assume it (log 11). -/
def floatRenderBinary64 (v : DecVal) : FloatDatum :=
  if v.m = 0 then .finite 0
  else
    match v.e with
    | .ofNat j => .finite (roundTo53 (v.m * Config.expBase ^ j) 1)
    | .negSucc j => .finite (roundTo53 v.m (Config.expBase ^ (j + 1)))

end Sys2Proof.Machine
end

