-- ==== Sys2Proof/Machine/Ops.lean ====
section
/-!
DEFINITION. The named operations over the state: the frame buffer's load and `MemRead` (00_scope.md R10), driving inputs and outputs
(10_state.md R29 to R31), raising `BadLength` (60_exceptions.md R170; there is no return from it, R179), the output register
(70_reset_and_hazards.md R196), the strings of the host view (43_formatter.md), and the transport calls (60_exceptions.md R176).
-/

namespace Sys2Proof.Machine

open Config

/-! ### The frame buffer -/

/-- The cells of a byte sequence from index `a` on. -/
def cellsFrom : Nat → List Byte → Memory
  | _, [] => []
  | a, b :: bs => (a, b) :: cellsFrom (a + 1) bs

/-- The frame buffer of a delivered sequence: its first 8 bytes (R29), index 0 the first element (R39). -/
def loadFrame (s : List Byte) : Memory := cellsFrom 0 (s.take frameLen)

/-- The byte at one index; none where the index is not listed (log 9). -/
def readByte (m : Memory) (a : Nat) : Option Byte := List.lookup a m

/-- The bytes `frame[i]`, ..., `frame[i+n-1]` in that order (R10); none where one of them is not listed. -/
def readBytes (m : Memory) (i n : Nat) : Option (List Byte) := (List.range' i n).mapM (readByte m)

/-- `MemRead(i, n)` (R10): "defined only when the frame has length 8 and `i+n <= 8`". It changes nothing (R43). -/
def State.memRead (s : State) (i n : Nat) : Option (List Byte) :=
  if s.rxTimeout = false ∧ s.rxLen = frameLen ∧ i + n ≤ frameLen then readBytes s.frame i n else none

/-- `rx_data[63:0]` (R29) where all 8 bytes are there. -/
def State.rxData (s : State) : Option (BitVec 64) :=
  (readBytes s.frame 0 frameLen).map wordOfFrame

/-! ### Inputs (R29) -/

/-- The inputs of a `Bytes(s)` event. -/
def State.driveBytes (s : State) (bs : List Byte) : State :=
  { s with rxTimeout := false, rxLen := bs.length, frame := loadFrame bs }

/-- The inputs of a `Timeout` event: `rx_len` is any value (U6, a free value) and there is no frame (R35; log 8). -/
def State.driveTimeout (s : State) : State :=
  { s with rxTimeout := true, rxLen := freeRxLen s.freeDraws, frame := [], freeDraws := s.freeDraws + 1 }

/-- The inputs of a receive event (R29). -/
def State.driveEvent (s : State) (ev : RxEvent) : State :=
  match ev with
  | .bytes bs => s.driveBytes bs
  | .timeout => s.driveTimeout

/-- `tx_data` for a value of `cmd_sel` (R134, R135). -/
def commandWord (sel : Bool) : BitVec 64 := if sel then wordOfFrame readRecordsStartFrame else wordOfFrame readCurrentFrame

/-- `cmd_sel` driven; `tx_data` follows it and nothing else does (R136). -/
def State.selectCommand (s : State) (sel : Bool) : State :=
  { s with cmdSel := sel, txData := commandWord sel }

/-! ### Outputs (R30) -/

/-- The outputs of a reading. -/
def Outputs.ofReading (r : DecodedReading) : Outputs :=
  { ok := true, errBadLength := false, endOfStream := false
    priMant := mantBits r.primaryValue, priExp := expBits r.primaryValue
    secMant := mantBits r.secondaryValue, secExp := expBits r.secondaryValue
    settings := packSettings r.settings
    priFloat := floatRender r.primaryValue, secFloat := floatRender r.secondaryValue }

/-- Outputs without a reading: the data are any value, the `n`th draw (R30, U2; log 7). -/
def Outputs.unspecified (errBadLength endOfStream : Bool) (n : Nat) : Outputs :=
  { ok := false, errBadLength := errBadLength, endOfStream := endOfStream
    priMant := freePriMant n, priExp := freePriExp n, secMant := freeSecMant n, secExp := freeSecExp n
    settings := freeSettings n, priFloat := freePriFloat n, secFloat := freeSecFloat n }

/-- The outputs of a reading are driven. -/
def State.driveReading (s : State) (r : DecodedReading) : State := { s with out := Outputs.ofReading r }

/-- Outputs without a reading are driven; the data are drawn anew. -/
def State.driveNoReading (s : State) (errBadLength endOfStream : Bool) : State :=
  { s with out := Outputs.unspecified errBadLength endOfStream s.freeDraws, freeDraws := s.freeDraws + 1 }

/-- `raise BadLength` (R10, R170 to R172): the machine's one exception. It is the value of the evaluation; there is no vector, no saved
pc and no mode to change (R178), and nothing to return from (R179; log 13). -/
def State.raiseBadLength (s : State) : State := s.driveNoReading true false

/-- The clean end of the stream (R174). -/
def State.signalEndOfStream (s : State) : State := s.driveNoReading false true

/-- The outputs an outcome drives (R28, R30). -/
def State.driveOutcome (s : State) : DecodeOutcome → State
  | .reading r => s.driveReading r
  | .error .badLength => s.raiseBadLength
  | .endOfStream => s.signalEndOfStream

/-- The code of the error on the outputs: 1 for `BadLength`, 0 for no error (R171). -/
def Outputs.errorCode (o : Outputs) : Nat := if o.errBadLength then 1 else 0

/-- The reading on the outputs (R30): there only while `ok = 1` (R199). -/
def Outputs.reading (o : Outputs) : Option DecodedReading :=
  if o.ok then
    (unpackSettings o.settings).map fun f =>
      { primaryValue := valueOfSignals o.priMant o.priExp
        secondaryValue := valueOfSignals o.secMant o.secExp
        settings := f }
  else none

/-- The outcome on the outputs (R28, R30); none while no flag is 1 (the output register after its reset, R196). -/
def Outputs.outcome (o : Outputs) : Option DecodeOutcome :=
  if o.ok then o.reading.map .reading
  else if o.errBadLength then some (.error .badLength)
  else if o.endOfStream then some .endOfStream
  else none

/-- The outputs a user of the block sees: the register with `OUT_REG = 1`, the combinational outputs with `OUT_REG = 0` (R7, R196). -/
def State.visibleOutputs (s : State) : Outputs := if s.outRegPresent then s.outReg else s.out

/-- A rising edge of `clk` with `rst = 0`: the register takes the combinational outputs (R196). -/
def State.latchOutReg (s : State) : State := { s with rst := false, outReg := s.out }

/-- A rising edge of `clk` with `rst = 1`: the register's flags go to 0 and its data are unspecified (R196, a free value; log 12). -/
def State.resetOutReg (s : State) : State :=
  { s with rst := true, outReg := Outputs.unspecified false false s.freeDraws, freeDraws := s.freeDraws + 1 }

/-- A rising edge of `clk` (R196); with `OUT_REG = 0` there is no clock, no reset input and no register, and nothing changes (R195). -/
def State.clockEdge (s : State) (rst : Bool) : State :=
  if s.outRegPresent then (if rst then s.resetOutReg else s.latchOutReg) else s

/-! ### Sub-blocks (R31) -/

/-- `decfp24` on a triplet: `t = [b0, b1, b2]`, and its outputs. -/
def State.driveDecfp24 (s : State) (b0 b1 b2 : Byte) : State :=
  { s with decfp24 := { t := BitVec.ofNat 24 (natOfBytes [b0, b1, b2])
                        mant := mantBits (decodeValue24 b0 b1 b2), exp := expBits (decodeValue24 b0 b1 b2) } }

/-- `flagx` on two bytes, and its output. -/
def State.driveFlagx (s : State) (b c : Byte) : State :=
  { s with flagx := { b := b, c := c, settings := packSettings (extractFlags b c) } }

/-! ### The host view -/

/-- `rjust(s, w)` (R153): spaces on the left up to width `w`, a longer value kept whole (log 20). -/
def rjust (s : Text) (w : Nat) : Text := List.replicate (w - s.length) ' ' ++ s

/-- The thirteen field values in the canonical order (R25, R100). -/
def fieldValues (r : SettingsFlags) : List Text :=
  [r.mode, r.deg, r.mph, r.knot, r.ftMin, r.kmh, r.mS, r.max, r.min, r.avg, r.twoThird, r.cmmCfm, r.hold]

/-- `PRIMARY_UNIT` (R150), on every record (R154). -/
def primaryUnitText (r : SettingsFlags) : Text :=
  if r.mode == txtVEL then r.mph ++ r.knot ++ r.ftMin ++ r.kmh ++ r.mS else r.cmmCfm

/-- `SECONDARY_UNIT` (R151). -/
def secondaryUnitText (r : SettingsFlags) : Text := "deg-".toList ++ r.deg

/-- Strings joined with single commas (R152). -/
def joinCommas : List Text → Text
  | [] => []
  | [t] => t
  | t :: u :: rest => t ++ ',' :: joinCommas (u :: rest)

/-- `RENDER` (R152): each field right-justified, joined with commas. -/
def renderText (r : SettingsFlags) (minWidth : Nat) : Text :=
  joinCommas ((fieldValues r).map fun v => rjust v minWidth)

/-- The result of `PRIMARY_UNIT`. -/
def State.setPrimaryUnit (s : State) (t : Text) : State := { s with primaryUnit := t }

/-- The result of `SECONDARY_UNIT`. -/
def State.setSecondaryUnit (s : State) (t : Text) : State := { s with secondaryUnit := t }

/-- The result of `RENDER`. -/
def State.setRendered (s : State) (t : Text) : State := { s with rendered := t }

/-! ### The caller and the transport -/

/-- The caller's script, replaced. -/
def State.withPending (s : State) (p : List Action) : State := { s with pending := p }

/-- An interaction of the run, recorded (R208). -/
def State.record (s : State) (c : Interaction) : State := { s with history := s.history ++ [c] }

/-- The number in the run of the receive made `back` receives before the last. -/
def State.receiveNumber (s : State) (back : Nat) : Nat := s.received.length - 1 - back

/-- `send` (R176): the argument is `tx_data`. -/
def State.sendCommand (s : State) : State := s.record (.send s.txData)

/-- What the environment answers to the next receive: its next answer, and a timeout where it has none left, that being what `receive`
returns when no frame arrived (R13; log 16). -/
def State.nextAnswer (s : State) : RxEvent := s.answers.headD .timeout

/-- `receive` (R176): the caller holds the answer. -/
def State.receiveEvent (s : State) : State :=
  { s.record (.receive rxTimeoutMs s.nextAnswer) with received := s.nextAnswer :: s.received, answers := s.answers.tail }

/-- What the caller does after an evaluation before it reads the outcome: with `OUT_REG = 1` the outputs appear at the next rising edge
(R196; log 12), with `OUT_REG = 0` they are there. -/
def awaitOutputs (outRegPresent : Bool) : List Action := if outRegPresent then [.clockEdge false] else []

/-- One round of `READ_ALL`'s loop (R70). -/
def readRound (outRegPresent : Bool) : List Action :=
  [.recv, .decodeReceived 0] ++ (awaitOutputs outRegPresent ++ [.collect])

/-- `READ_ALL`'s list, emptied: R70 does not say what the list starts from, and each `READ_ALL` gathers a list of its own (log 17,
DESIGN CHOICE). -/
def State.emptyList (s : State) : State := { s with collected := [] }

/-- An outcome appended to `READ_ALL`'s list, and the loop's next round before what was pending (R70). -/
def State.collectOutcome (s : State) (o : DecodeOutcome) : State :=
  { s with collected := s.collected ++ [o], pending := readRound s.outRegPresent ++ s.pending }

/-- `SEND READ_CURRENT` (R69). -/
def sendReadCurrent : List Action := [.invoke (encode .readCurrent), .send]

/-- `SEND READ_RECORDS_START` (R69). -/
def sendReadRecordsStart : List Action := [.invoke (encode .readRecordsStart), .send]

/-- The expansion of `READ_ONE` (R70). -/
def readOne (outRegPresent : Bool) : List Action :=
  sendReadCurrent ++ [.recv, .decodeReceived 0] ++ awaitOutputs outRegPresent

/-- The expansion of `READ_ALL` (R70), on a list of its own (log 17, DESIGN CHOICE); `collect` goes round the loop. -/
def readAll (outRegPresent : Bool) : List Action :=
  .newList :: (sendReadRecordsStart ++ readRound outRegPresent)

end Sys2Proof.Machine
end

