-- ==== Sys2Proof/Machine/FrameDecode.lean ====
section
/-!
DEFINITION. The family of `DECODE_FRAME` (42_frame_and_commands.md R130 to R133) and the two command frames (R134 to R136).
-/

namespace Sys2Proof.Machine

open Config

/-- The reading of a frame from the bytes its four `MemRead`s gave (R130). -/
def readingOf (b c : Byte) (p0 p1 p2 q0 q1 q2 : Byte) : DecodedReading :=
  { primaryValue := decodeValue24 p0 p1 p2, secondaryValue := decodeValue24 q0 q1 q2, settings := extractFlags b c }

/-- The reading of a frame, its bytes by index (R37); used of frames of length 8 only. -/
def readingOfFrame (frame : List Byte) : DecodedReading :=
  let byte := fun i => frame.getD i 0#8
  readingOf (byte 0) (byte 1) (byte 2) (byte 3) (byte 4) (byte 5) (byte 6) (byte 7)

/-- The reading of the frame in the buffer: the four reads of R130, each at its constant index and length. -/
def State.decodeFrameBuffer (s : State) : Except Fault DecodedReading :=
  match s.memRead 0 1 with
  | some [b] =>
    match s.memRead 1 1 with
    | some [c] =>
      match s.memRead priOff tripletLen with
      | some [p0, p1, p2] =>
        match s.memRead secOff tripletLen with
        | some [q0, q1, q2] => .ok (readingOf b c p0 p1 p2 q0 q1 q2)
        | _ => .error (.frameRead secOff tripletLen)
      | _ => .error (.frameRead priOff tripletLen)
    | _ => .error (.frameRead 1 1)
  | _ => .error (.frameRead 0 1)

/-- One evaluation of the block on its present inputs, in the order of R175: the timeout, then the length, then the decode. -/
def State.evaluate (s : State) : Except Fault DecodeOutcome :=
  if s.rxTimeout then .ok .endOfStream
  else if s.rxLen ≠ frameLen then .ok (.error .badLength)
  else s.decodeFrameBuffer.map .reading

/-- `DECODE_FRAME` (R130): the event is driven on the inputs and the outcome of the evaluation on the outputs. -/
def execDecodeFrame (ev : RxEvent) (s : State) : Host.Outcome State Fault Refusal :=
  match (s.driveEvent ev).evaluate with
  | .ok o => .next ((s.driveEvent ev).driveOutcome o)
  | .error f => .fault f

/-- `READ_CURRENT` (R134): `cmd_sel = 0`. -/
def execReadCurrent (s : State) : Host.Outcome State Fault Refusal := .next (s.selectCommand false)

/-- `READ_RECORDS_START` (R135): `cmd_sel = 1`. -/
def execReadRecordsStart (s : State) : Host.Outcome State Fault Refusal := .next (s.selectCommand true)

end Sys2Proof.Machine
end

