-- ==== Sys2Proof/Machine/HostView.lean ====
section
/-!
DEFINITION. The host view: `PRIMARY_UNIT`, `SECONDARY_UNIT` and `RENDER` (43_formatter.md R150 to R155).
-/

namespace Sys2Proof.Machine

/-- `PRIMARY_UNIT` (R150). -/
def execPrimaryUnit (settings : SettingsFlags) (s : State) : Host.Outcome State Fault Refusal :=
  .next (s.setPrimaryUnit (primaryUnitText settings))

/-- `SECONDARY_UNIT` (R151). -/
def execSecondaryUnit (settings : SettingsFlags) (s : State) : Host.Outcome State Fault Refusal :=
  .next (s.setSecondaryUnit (secondaryUnitText settings))

/-- `RENDER` (R152). -/
def execRender (settings : SettingsFlags) (minWidth : Nat) (s : State) : Host.Outcome State Fault Refusal :=
  .next (s.setRendered (renderText settings minWidth))

end Sys2Proof.Machine
end

