-- ==== Sys2Proof/Machine/SubBlocks.lean ====
section
/-!
DEFINITION. The sub-block operations: `DECODE_VALUE24` (40_decfp24.md) and `EXTRACT_FLAGS` (41_flags_extractor.md).
-/

namespace Sys2Proof.Machine

/-- `DECODE_VALUE24` (R80): the triplet on `decfp24`. -/
def execDecodeValue24 (b0 b1 b2 : Byte) (s : State) : Host.Outcome State Fault Refusal := .next (s.driveDecfp24 b0 b1 b2)

/-- `EXTRACT_FLAGS` (R100): the two bytes on `flagx`. -/
def execExtractFlags (b c : Byte) (s : State) : Host.Outcome State Fault Refusal := .next (s.driveFlagx b c)

end Sys2Proof.Machine
end

