-- ==== Sys2Proof/Machine/Dispatch.lean ====
section
/-!
DEFINITION. One arm per constructor of `Instr`.
-/

namespace Sys2Proof.Machine

def exec (i : Instr) (s : State) : Host.Outcome State Fault Refusal :=
  match i with
  | .readCurrent => Sys2Proof.Machine.execReadCurrent s
  | .readRecordsStart => Sys2Proof.Machine.execReadRecordsStart s
  | .decodeFrame ev => Sys2Proof.Machine.execDecodeFrame ev s
  | .decodeValue24 b0 b1 b2 => Sys2Proof.Machine.execDecodeValue24 b0 b1 b2 s
  | .extractFlags b c => Sys2Proof.Machine.execExtractFlags b c s
  | .primaryUnit settings => Sys2Proof.Machine.execPrimaryUnit settings s
  | .secondaryUnit settings => Sys2Proof.Machine.execSecondaryUnit settings s
  | .render settings minWidth => Sys2Proof.Machine.execRender settings minWidth s

end Sys2Proof.Machine
end

