-- ==== Sys2Proof/Machine/Run.lean ====
section
/-!
DEFINITION. The caller's actions (30_encoding.md R69, R70; 70_reset_and_hazards.md R208): what each does, and how an operation is
fetched from the request that invokes it.
-/

namespace Sys2Proof.Machine

/-- An operation as it is invoked: decoded, then executed; an undecodable request is refused by name. -/
def runRequest (r : Request) (s : State) : Host.Outcome State Fault Refusal :=
  match decode r with
  | .ok i => exec i s
  | .error e => .refused (.undecodable e)

/-- A host function on the reading the caller sees, on the register's outputs where `OUT_REG = 1` (R196): refused while there is none
(R199, U2). -/
def onReading (iface : Iface) (s : State) : Host.Outcome State Fault Refusal :=
  if s.visibleOutputs.ok then runRequest { iface := iface, bytes := settingsBytes s.visibleOutputs.settings } s else .refused .noReading

/-- One caller action. -/
def runAction (a : Action) (s : State) : Host.Outcome State Fault Refusal :=
  match a with
  | .invoke r => runRequest r s
  | .send => .next s.sendCommand
  | .recv => .next s.receiveEvent
  | .decodeReceived back =>
    match s.received[back]? with
    | some ev => runRequest (requestOfEvent ev) (s.record (.evaluate (s.receiveNumber back) ev))
    | none => .refused .nothingReceived
  | .primaryUnitOfReading => onReading .primaryUnit s
  | .secondaryUnitOfReading => onReading .secondaryUnit s
  | .renderReading w => onReading (.render w) s
  | .newList => .next s.emptyList
  | .collect =>
    match s.visibleOutputs.outcome with
    | some .endOfStream => .next s
    | some o => .next (s.collectOutcome o)
    | none => .refused .noReading
  | .clockEdge rst => .next (s.clockEdge rst)

/-- The oldest pending action; with none the block is idle and nothing changes (R207; log 2). -/
def runPending (s : State) : Host.Outcome State Fault Refusal :=
  match s.pending with
  | [] => .next s
  | a :: rest => runAction a (s.withPending rest)

end Sys2Proof.Machine
end

