-- ==== Sys2Proof/Machine/Step.lean ====
section
/-!
DEFINITION. One step of a run: the caller's oldest pending action. The block has no program counter (10_state.md R21); an operation is
fetched from the request that invokes it.
-/

namespace Sys2Proof.Machine

/-- One step. -/
def step (s : State) : Host.Outcome State Fault Refusal := runPending s

/-- The instruction of table bits `w` as the caller's next action (log 2, log 4). -/
def State.withFetchWord (s : State) (nbits w : Nat) : State :=
  s.withPending (.invoke (tableRequest nbits w) :: s.pending)

end Sys2Proof.Machine
end

