-- ==== Sys2Proof/Safety.lean ====
section
/-!
DEFINITION. What claims about runs are stated in: the invariant every step keeps, when the next step has what it needs, and the caller's
duties of order (30_encoding.md R67; 70_reset_and_hazards.md R200, R205, R208; log 28).
-/

namespace Sys2Proof.Machine

open Config

/-- The outputs are the function of the present inputs (R195, R30): the flags by R175, and in a reading the data by R130. -/
structure State.OutputsFollow (s : State) : Prop where
  endOfStream : s.out.endOfStream = s.rxTimeout
  errBadLength : s.out.errBadLength = (!s.rxTimeout && s.rxLen != frameLen)
  ok : s.out.ok = (!s.rxTimeout && s.rxLen == frameLen)
  data : s.out.ok = true → ∃ frame : List Byte, frame.length = frameLen ∧ s.frame = loadFrame frame ∧
    s.out = Outputs.ofReading (readingOfFrame frame)

/-- Outputs that an evaluation or the register's reset may leave: at most one flag is 1 (R30, R196), and in a reading the data are those
of a frame (R130). -/
structure Outputs.Sound (o : Outputs) : Prop where
  exclusive : [o.ok, o.errBadLength, o.endOfStream].count true ≤ 1
  data : o.ok = true → ∃ frame : List Byte, frame.length = frameLen ∧ o = Outputs.ofReading (readingOfFrame frame)

/-- The frame buffer is in its canonical form and holds what the delivered sequence gave it (R29, R35). -/
structure State.FrameHeld (s : State) : Prop where
  wf : Memory.wf s.frame = true
  noneOnTimeout : s.rxTimeout = true → s.frame = []
  length : s.rxTimeout = false → s.frame.length = Nat.min frameLen s.rxLen

/-! ### The caller's duties -/

/-- `DECODE_FRAME` as a function of the event alone (R130, R133). -/
def outcomeOf (ev : RxEvent) : DecodeOutcome :=
  match ev with
  | .timeout => .endOfStream
  | .bytes bs => if bs.length = frameLen then .reading (readingOfFrame bs) else .error .badLength

/-- A record stream of the run, as the caller's duties see it (R200, R208). Its events are named by the numbers of their receives. -/
structure StreamPhase where
  /-- No timeout has been received since `READ_RECORDS_START` was sent. -/
  running : Bool
  /-- The events received and not evaluated yet, the oldest first. -/
  owed : List Nat
  /-- The events evaluated, the oldest first. -/
  passed : List Nat
  /-- The caller's last interaction with the stream was an evaluation that gave `BadLength`: where it may decide to abort (R179). -/
  lastWasBad : Bool
  deriving DecidableEq, Repr

/-- A stream right after `READ_RECORDS_START` is sent. -/
def StreamPhase.begun : StreamPhase := { running := true, owed := [], passed := [], lastWasBad := false }

/-- The events of the stream so far. -/
def StreamPhase.events (st : StreamPhase) : List Nat := st.passed ++ st.owed

/-- The timeout has been received and every event has been evaluated. -/
def StreamPhase.settled (st : StreamPhase) : Bool := !st.running && st.owed.isEmpty

/-- The stream after a receive: a running one owes the evaluation of the event, and a timeout ends it (R200). That the timeout is one of its
events, to be evaluated too, is DEDUCED (R27, R70; log 28). -/
def StreamPhase.afterReceive (st : StreamPhase) (receive : Nat) (answer : RxEvent) : StreamPhase :=
  if st.running then { st with running := decide (answer ≠ .timeout), owed := st.owed ++ [receive], lastWasBad := false } else st

/-- Evaluating this event now would break a duty: it has been evaluated, or an older event of the stream has not (R208: "in order, one
evaluation each"). -/
def StreamPhase.forbids (st : StreamPhase) (receive : Nat) : Bool := st.passed.contains receive || st.owed.tail.contains receive

/-- The stream after an evaluation, which pays for its oldest event owed if it is of that event, and is none of the stream's business
otherwise. -/
def StreamPhase.afterEvaluate (st : StreamPhase) (receive : Nat) (ev : RxEvent) : StreamPhase :=
  match st.owed with
  | [] => st
  | oldest :: later =>
    if oldest = receive then
      { st with owed := later, passed := st.passed ++ [receive], lastWasBad := decide (outcomeOf ev = .error .badLength) }
    else st

/-- The caller may leave the stream alone for good: it is settled (that leaving it earlier breaks the duties is DEDUCED from R200, log 28), or
the caller's policy lets it abort on a `BadLength` and its last interaction with the stream gave one. The spec leaves that policy to the
caller (R179, N18, U12: a parameter; P4 (b)), so it is a parameter here (log 28, DESIGN CHOICE). -/
def StreamPhase.mayLeave (abortOnBadLength : Bool) (st : StreamPhase) : Bool := st.settled || (abortOnBadLength && st.lastWasBad)

/-- What the interactions so far have led to, as the caller's duties see it (R200, R205, R208). -/
structure CallerPhase where
  /-- `READ_CURRENT` was sent, and nothing received since. -/
  commandOpen : Bool
  /-- How many receives there were. -/
  receives : Nat
  /-- The record streams, the latest first. -/
  streams : List StreamPhase
  deriving DecidableEq, Repr

/-- Before the first interaction. -/
def CallerPhase.atRest : CallerPhase := { commandOpen := false, receives := 0, streams := [] }

/-- A record stream is running: the latest one is, or none is. -/
def CallerPhase.streaming (p : CallerPhase) : Bool :=
  match p.streams with
  | [] => false
  | latest :: _ => latest.running

/-- Every stream is settled. -/
def CallerPhase.settled (p : CallerPhase) : Bool := p.streams.all StreamPhase.settled

/-- The phase after a send: one of the two constants (R67), one command at a time (R205, R208). That a
running stream is a command still open, so that a send in it breaks the duties, is DEDUCED, and that it does so after a `BadLength` too,
whatever the caller's policy, is a DESIGN CHOICE (log 28). -/
def CallerPhase.afterSend (p : CallerPhase) (frame : BitVec 64) : Option CallerPhase :=
  if p.commandOpen || p.streaming then none
  else if frame = wordOfFrame readRecordsStartFrame then some { p with streams := .begun :: p.streams }
  else if frame = wordOfFrame readCurrentFrame then some { p with commandOpen := true }
  else none

/-- The phase after a receive, which breaks no duty. That any receive answers an outstanding `READ_CURRENT`, one that times out too, is the
model's (R205 does not say; log 28, DESIGN CHOICE). -/
def CallerPhase.afterReceive (p : CallerPhase) (answer : RxEvent) : CallerPhase :=
  { commandOpen := false
    receives := p.receives + 1
    streams :=
      match p.streams with
      | [] => []
      | latest :: past => latest.afterReceive p.receives answer :: past }

/-- The phase after an evaluation of a received event. The events of each stream are evaluated in order and once each (R208), whenever the
caller likes, during the stream or after it; an event received outside the streams may be evaluated or not, at any time. -/
def CallerPhase.afterEvaluate (p : CallerPhase) (receive : Nat) (ev : RxEvent) : Option CallerPhase :=
  if p.streams.any (·.forbids receive) then none
  else some { p with streams := p.streams.map (·.afterEvaluate receive ev) }

/-- The phase after one more interaction; none where it breaks a duty of R208. -/
def CallerPhase.after (p : CallerPhase) : Interaction → Option CallerPhase
  | .send frame => p.afterSend frame
  | .receive _ answer => some (p.afterReceive answer)
  | .evaluate receive ev => p.afterEvaluate receive ev

/-- The phase the run so far has led to; none once a duty has been broken. -/
def State.callerPhase (s : State) : Option CallerPhase := s.history.foldlM CallerPhase.after .atRest

/-- The run so far keeps the caller's duties: none is broken, and the caller has more to do unless it may leave every stream alone (U15: the
spec has no run that stops a stream early). The parameter is the caller's policy on a `BadLength` in a stream: with false R200's duty to keep
receiving holds after one too, with true the caller may abort there (R179, U12; log 28, DESIGN CHOICE). -/
def State.DutiesKept (s : State) (abortOnBadLength : Bool) : Prop :=
  ∃ p, s.callerPhase = some p ∧ (s.pending = [] → p.streams.all (·.mayLeave abortOnBadLength) = true)

/-- What the caller holds agrees with the history: it holds as many events as there were receives, an evaluation in the history was of the
very event that its receive brought (R208: "unaltered"), and the events of the streams are distinct receives of the run. -/
structure State.CallerHeld (s : State) : Prop where
  unaltered : ∀ receive ev, Interaction.evaluate receive ev ∈ s.history → s.received.reverse[receive]? = some ev
  receives : ∀ p, s.callerPhase = some p → p.receives = s.received.length
  received : ∀ p, s.callerPhase = some p → ∀ n ∈ p.streams.flatMap StreamPhase.events, n < p.receives
  distinct : ∀ p, s.callerPhase = some p → (p.streams.flatMap StreamPhase.events).Nodup

/-! ### The invariant -/

/-- What a step keeps. -/
structure State.Inv (s : State) : Prop where
  outputs : s.OutputsFollow
  frame : s.FrameHeld
  /-- `tx_data` follows `cmd_sel` (R136). -/
  txData : s.txData = commandWord s.cmdSel
  /-- The value decoder's outputs are the two fields of its input (R89). -/
  decfp24 : s.decfp24.mant = s.decfp24.t.extractLsb' 8 16 ∧ s.decfp24.exp = s.decfp24.t.extractLsb' 0 8
  /-- The flags extractor's output is the packed record of its inputs (R100). -/
  flagx : s.flagx.settings = packSettings (extractFlags s.flagx.b s.flagx.c)
  /-- Only the two constants were ever handed to `send` (R67). -/
  sent : ∀ w, Interaction.send w ∈ s.history → w = 0xB300000000000000#64 ∨ w = 0xC400000000000000#64
  /-- What the caller holds agrees with the history (R208). -/
  caller : s.CallerHeld
  /-- `READ_ALL`'s list holds no end of stream (R70). -/
  collected : DecodeOutcome.endOfStream ∉ s.collected
  /-- The output register holds what an evaluation gave, or its reset (R196). -/
  outReg : s.outReg.Sound

/-- The next action has what it needs: a request that denotes an operation (R64), an event the caller holds, an outcome the caller has
looked at (R199). -/
def State.Ready (s : State) : Prop :=
  match s.pending with
  | [] => True
  | .invoke r :: _ => ∃ i, decode r = .ok i
  | .send :: _ => True
  | .recv :: _ => True
  | .decodeReceived back :: _ => back < s.received.length
  | .primaryUnitOfReading :: _ => s.visibleOutputs.ok = true
  | .secondaryUnitOfReading :: _ => s.visibleOutputs.ok = true
  | .renderReading _ :: _ => s.visibleOutputs.ok = true
  | .newList :: _ => True
  | .collect :: _ => s.visibleOutputs.ok = true ∨ s.visibleOutputs.errBadLength = true ∨ s.visibleOutputs.endOfStream = true
  | .clockEdge _ :: _ => True

end Sys2Proof.Machine
end

