-- ==== Sys2Proof/Certificates/Slice0/Obligations.lean ====
section
/-!
DEFINITION. The statements for the provers. Each docstring names the rule of spec/ it formalises, or says what of the model it rests on.
-/

open Sys2Proof Sys2Proof.Machine

/-! ### Encoding -/

/-- Decoding the encoding of a well-formed operation gives it back, for every operand (R55 to R60, R64, R71; the carriage of operands in
requests is the model's, log 3 and log 22). -/
def Obligations.DecodeOfEncodeIsTheInstruction : Prop :=
  ∀ i : Instr, wellFormed i = true → decode (encode i) = .ok i

/-- A request that denotes an operation is that operation's encoding: each accepted word has one meaning. A timeout's bytes are not read
(R175), so there they are taken empty. -/
def Obligations.EncodeOfDecodeIsTheRequest : Prop :=
  ∀ (r : Request) (i : Instr), decode r = .ok i → (r.iface = .rxTimeout → r.bytes = []) → encode i = r

/-- Words written out from the opcode table decode to their operations (R56 to R60, R71; which width stands for which interface is the
model's, log 4). -/
def Obligations.TableWordsDecode : Prop :=
  decodeTableWord 64 0xB300000000000000 = some .readCurrent ∧
  decodeTableWord 64 0xC400000000000000 = some .readRecordsStart ∧
  decodeTableWord 64 0x9100000A020005FF =
    some (.decodeFrame (.bytes [0x91#8, 0x00#8, 0x00#8, 0x0A#8, 0x02#8, 0x00#8, 0x05#8, 0xFF#8])) ∧
  decodeTableWord 24 0x1234FE = some (.decodeValue24 0x12#8 0x34#8 0xFE#8) ∧
  decodeTableWord 16 0x9105 = some (.extractFlags 0x91#8 0x05#8)

/-- On the command interface exactly the two constants denote an operation (R67). -/
def Obligations.OnlyTheTwoCommandFramesDecode : Prop :=
  ∀ (bs : List Byte) (i : Instr), decode { iface := .cmd, bytes := bs } = .ok i ↔
    (i = .readCurrent ∧ bs = [0xB3#8, 0#8, 0#8, 0#8, 0#8, 0#8, 0#8, 0#8]) ∨
    (i = .readRecordsStart ∧ bs = [0xC4#8, 0#8, 0#8, 0#8, 0#8, 0#8, 0#8, 0#8])

/-- On the receive interface every byte sequence, of any length, is given to `DECODE_FRAME`, on the flags interface every pair to
`EXTRACT_FLAGS`, on the triplet interface every three bytes to `DECODE_VALUE24` (R64, R66). A sequence of another length on the triplet
interface is refused by name (U8); that one on the flags interface is refused too is the model's inference (log 3, DEDUCED). -/
def Obligations.EveryDataPatternDecodes : Prop :=
  (∀ bs : List Byte, decode { iface := .rx, bytes := bs } = .ok (.decodeFrame (.bytes bs))) ∧
  (∀ b c : Byte, decode { iface := .flagx, bytes := [b, c] } = .ok (.extractFlags b c)) ∧
  (∀ b0 b1 b2 : Byte, decode { iface := .decfp24, bytes := [b0, b1, b2] } = .ok (.decodeValue24 b0 b1 b2)) ∧
  (∀ bs : List Byte, bs.length ≠ 2 → decode { iface := .flagx, bytes := bs } = .error .notAFlagPair) ∧
  (∀ bs : List Byte, bs.length ≠ 3 → decode { iface := .decfp24, bytes := bs } = .error .notATriplet)

/-- A packed settings vector denotes a record exactly when the code of `cmm_cfm` is not the never-produced `0b01` (R25, U7; that the other
unreachable vectors are accepted is the model's choice, log 18). -/
def Obligations.SettingsVectorDecodesUnlessCode01 : Prop :=
  ∀ v : BitVec 14,
    ((v.getLsbD 2 = false ∧ v.getLsbD 1 = true) → decodeSettings (settingsBytes v) = .error .settingsCodeNeverProduced) ∧
    (¬(v.getLsbD 2 = false ∧ v.getLsbD 1 = true) → ∃ r, decodeSettings (settingsBytes v) = .ok r ∧ packSettings r = v)

/-! ### A step -/

/-- A step with an operation invoked runs the decoded operation on the state without that action. -/
def Obligations.StepRunsTheDecodedInstruction : Prop :=
  ∀ (s : State) (r : Request) (rest : List Action) (i : Instr),
    s.pending = .invoke r :: rest → decode r = .ok i → step s = exec i { s with pending := rest }

/-- A request that denotes no operation is refused by the decoder's name for it. -/
def Obligations.StepRefusesAnUndecodableRequest : Prop :=
  ∀ (s : State) (r : Request) (rest : List Action) (e : Reject),
    s.pending = .invoke r :: rest → decode r = .error e → step s = .refused (.undecodable e)

/-- `DECODE_FRAME ev` on an event the caller holds runs `DECODE_FRAME` on that event, unaltered (R69, R208), with the evaluation recorded
under the number of the event's receive, and is refused by name where the caller holds none at that place (the caller's actions and what
is recorded are the model's, log 17). -/
def Obligations.StepDecodesTheReceivedEvent : Prop :=
  ∀ (s : State) (back : Nat) (rest : List Action), s.pending = .decodeReceived back :: rest →
    (∀ ev, s.received[back]? = some ev → step s = exec (.decodeFrame ev) { s with
      pending := rest, history := s.history ++ [.evaluate (s.receiveNumber back) ev] }) ∧
    (s.received[back]? = none → step s = .refused .nothingReceived)

/-- The host functions of the reading the caller sees, on the register's outputs where `OUT_REG = 1` (R196), run on the record of the frame
that was read (R208, R157; the caller's actions are the model's, log 17). -/
def Obligations.HostFunctionsRunOnTheReadingsRecord : Prop :=
  ∀ (s : State) (rest : List Action) (f0 f1 f2 f3 f4 f5 f6 f7 : Byte) (w : Nat),
    s.visibleOutputs = Outputs.ofReading (readingOf f0 f1 f2 f3 f4 f5 f6 f7) →
      (s.pending = .primaryUnitOfReading :: rest → step s = exec (.primaryUnit (extractFlags f0 f1)) { s with pending := rest }) ∧
      (s.pending = .secondaryUnitOfReading :: rest → step s = exec (.secondaryUnit (extractFlags f0 f1)) { s with pending := rest }) ∧
      (s.pending = .renderReading w :: rest → step s = exec (.render (extractFlags f0 f1) w) { s with pending := rest })

/-- A host function of the present reading is refused while the `ok` the caller sees is 0: the data mean nothing then (R199, U2). -/
def Obligations.NoReadingIsUsedWithoutOk : Prop :=
  ∀ (s : State) (rest : List Action) (w : Nat), s.visibleOutputs.ok = false →
    (s.pending = .primaryUnitOfReading :: rest → step s = .refused .noReading) ∧
    (s.pending = .secondaryUnitOfReading :: rest → step s = .refused .noReading) ∧
    (s.pending = .renderReading w :: rest → step s = .refused .noReading)

/-! ### The command frames -/

/-- R134. -/
def Obligations.ReadCurrentDrivesItsFrame : Prop :=
  (encode .readCurrent).bytes = [0xB3#8, 0#8, 0#8, 0#8, 0#8, 0#8, 0#8, 0#8] ∧
  ∀ s : State, exec .readCurrent s = .next { s with cmdSel := false, txData := 0xB300000000000000#64 }

/-- R135. -/
def Obligations.ReadRecordsStartDrivesItsFrame : Prop :=
  (encode .readRecordsStart).bytes = [0xC4#8, 0#8, 0#8, 0#8, 0#8, 0#8, 0#8, 0#8] ∧
  ∀ s : State, exec .readRecordsStart s = .next { s with cmdSel := true, txData := 0xC400000000000000#64 }

/-- R136: a command and a decode never interact; in either order they leave the same state, and the command leaves every output of the
decode alone and the decode leaves `tx_data` alone. Without a reading, that the two orders agree also on the values the spec leaves open is
the model's: on the data outputs (U2) by its draws, numbered along the run (log 7), on `rx_len` after a timeout and `rx_data` outside a
frame (U6) by log 8 and log 9. -/
def Obligations.CommandAndDecodeDoNotInteract : Prop :=
  ∀ (i : Instr) (ev : RxEvent) (s : State), i = .readCurrent ∨ i = .readRecordsStart →
    ∃ a b t : State, exec i s = .next a ∧ exec (.decodeFrame ev) a = .next t ∧
      exec (.decodeFrame ev) s = .next b ∧ exec i b = .next t ∧
      a.out = s.out ∧ b.txData = s.txData ∧ b.cmdSel = s.cmdSel

/-! ### `DECODE_FRAME` -/

/-- R130 on the abstract types: the outcome that stands on the outputs after `DECODE_FRAME`, for every event. -/
def Obligations.DecodeFrameOutcome : Prop :=
  ∀ (ev : RxEvent) (s : State), ∃ t, exec (.decodeFrame ev) s = .next t ∧
    (ev = .timeout → t.out.outcome = some .endOfStream) ∧
    (∀ bs, ev = .bytes bs → bs.length ≠ 8 → t.out.outcome = some (.error .badLength)) ∧
    (∀ f0 f1 f2 f3 f4 f5 f6 f7 : Byte, ev = .bytes [f0, f1, f2, f3, f4, f5, f6, f7] →
      t.out.outcome = some (.reading
        { primaryValue := decodeValue24 f2 f3 f4, secondaryValue := decodeValue24 f5 f6 f7, settings := extractFlags f0 f1 }))

/-- The signals of a reading (R29, R30, R37, R38, R114), and everything `DECODE_FRAME` leaves unchanged. The frame buffer holds exactly the
8 bytes. -/
def Obligations.DecodeFrameDrivesTheReading : Prop :=
  ∀ (f0 f1 f2 f3 f4 f5 f6 f7 : Byte) (s : State), ∃ t,
    exec (.decodeFrame (.bytes [f0, f1, f2, f3, f4, f5, f6, f7])) s = .next t ∧
    t.out.ok = true ∧ t.out.errBadLength = false ∧ t.out.endOfStream = false ∧
    t.out.priMant = f2 ++ f3 ∧ t.out.priExp = f4 ∧ t.out.secMant = f5 ++ f6 ∧ t.out.secExp = f7 ∧
    t.out.settings = settingsEquations f0 f1 ∧
    t.out.priFloat = floatRender (valueOfSignals (f2 ++ f3) f4) ∧ t.out.secFloat = floatRender (valueOfSignals (f5 ++ f6) f7) ∧
    t.rxData = some (f0 ++ f1 ++ f2 ++ f3 ++ f4 ++ f5 ++ f6 ++ f7) ∧
    (∀ a, readByte t.frame a = [f0, f1, f2, f3, f4, f5, f6, f7][a]?) ∧
    t = { s with rxTimeout := false, rxLen := 8, frame := t.frame, out := t.out }

/-- R131, R170: a sequence of any other length than 8, whatever it holds, is `BadLength`; no reading is made. The frame: nothing else of the
state changes but the inputs and the count of free draws. That the buffer holds the first 8 bytes of such a sequence is
the model's choice (log 9; U6 leaves it any value). -/
def Obligations.DecodeFrameRaisesBadLength : Prop :=
  ∀ (bs : List Byte) (s : State), bs.length ≠ 8 → ∃ t, exec (.decodeFrame (.bytes bs)) s = .next t ∧
    t.out.ok = false ∧ t.out.errBadLength = true ∧ t.out.endOfStream = false ∧ t.out.reading = none ∧
    (∀ a, readByte t.frame a = (bs.take 8)[a]?) ∧
    t = { s with rxTimeout := false, rxLen := bs.length, frame := t.frame, out := t.out, freeDraws := t.freeDraws }

/-- R131: nothing of a sequence of another length influences the outcome. That two such sequences, evaluated in the same state, leave the
same data outputs too is the model's choice (log 7: one draw per evaluation, in the order of the run), where U2 leaves them any value. -/
def Obligations.BadLengthReadsNoByte : Prop :=
  ∀ (bs bs' : List Byte) (s : State), bs.length ≠ 8 → bs'.length ≠ 8 → ∃ t t',
    exec (.decodeFrame (.bytes bs)) s = .next t ∧ exec (.decodeFrame (.bytes bs')) s = .next t' ∧
    t.out.errBadLength = true ∧ t.out = t'.out

/-- R174: every timeout gives the end of the stream, never an error. What else the state keeps is the model's (log 8). -/
def Obligations.DecodeFrameEndsTheStreamOnTimeout : Prop :=
  ∀ s : State, ∃ t, exec (.decodeFrame .timeout) s = .next t ∧
    t.out.ok = false ∧ t.out.errBadLength = false ∧ t.out.endOfStream = true ∧ t.out.reading = none ∧
    t = { s with rxTimeout := true, rxLen := t.rxLen, frame := t.frame, out := t.out, freeDraws := t.freeDraws }

/-- R175: the order of checks on the signals; the decode cannot fail on a frame the inputs hold. -/
def Obligations.ChecksComeInOrder : Prop :=
  ∀ s : State,
    (s.rxTimeout = true → s.evaluate = .ok .endOfStream) ∧
    (s.rxTimeout = false → s.rxLen ≠ 8 → s.evaluate = .ok (.error .badLength)) ∧
    (s.FrameHeld → s.rxTimeout = false → s.rxLen = 8 → ∃ r, s.evaluate = .ok (.reading r))

/-- Exactly one of the three flags is 1 after an evaluation (R30), and the error code is 1 for `BadLength` and 0 otherwise (R171). -/
def Obligations.ExactlyOneFlagAfterAnEvaluation : Prop :=
  ∀ (ev : RxEvent) (s : State), ∃ t, exec (.decodeFrame ev) s = .next t ∧
    [t.out.ok, t.out.errBadLength, t.out.endOfStream].count true = 1 ∧
    t.out.errorCode = (if outcomeOf ev = .error .badLength then 1 else 0)

/-- R133: the outcome is a function of the event alone, whatever the state the two evaluations start from. -/
def Obligations.DecodeFrameIsAFunctionOfTheEvent : Prop :=
  ∀ (ev : RxEvent) (s s' : State), ∃ t t',
    exec (.decodeFrame ev) s = .next t ∧ exec (.decodeFrame ev) s' = .next t' ∧
    t.out.outcome = some (outcomeOf ev) ∧ t'.out.outcome = some (outcomeOf ev) ∧
    (t.out.ok = true → t.out = t'.out)

/-- R170, R179: the error leaves nothing behind; an evaluation after a `BadLength` has the outcome it would have had without it. -/
def Obligations.ErrorLeavesNothingBehind : Prop :=
  ∀ (bs : List Byte) (ev : RxEvent) (s : State), bs.length ≠ 8 → ∃ u t v,
    exec (.decodeFrame (.bytes bs)) s = .next u ∧ exec (.decodeFrame ev) u = .next t ∧ exec (.decodeFrame ev) s = .next v ∧
    t.out.outcome = v.out.outcome

/-- R132: the primary value depends only on bytes 2 to 4, the secondary only on 5 to 7, the settings only on 0 and 1. -/
def Obligations.PartsOfAReadingAreIndependent : Prop :=
  ∀ (f0 f1 f2 f3 f4 f5 f6 f7 g0 g1 g2 g3 g4 g5 g6 g7 : Byte) (s : State), ∃ t u,
    exec (.decodeFrame (.bytes [f0, f1, f2, f3, f4, f5, f6, f7])) s = .next t ∧
    exec (.decodeFrame (.bytes [g0, g1, g2, g3, g4, g5, g6, g7])) s = .next u ∧
    (f2 = g2 → f3 = g3 → f4 = g4 →
      t.out.priMant = u.out.priMant ∧ t.out.priExp = u.out.priExp ∧ t.out.priFloat = u.out.priFloat) ∧
    (f5 = g5 → f6 = g6 → f7 = g7 →
      t.out.secMant = u.out.secMant ∧ t.out.secExp = u.out.secExp ∧ t.out.secFloat = u.out.secFloat) ∧
    (f0 = g0 → f1 = g1 → t.out.settings = u.out.settings)

/-- R65: the outcome is the same whatever bit 6 of byte 0 and bits 2 and 0 of byte 1 are. -/
def Obligations.UnreadBitsDoNotMatter : Prop :=
  ∀ (b b' c c' f2 f3 f4 f5 f6 f7 : Byte) (s : State),
    b &&& 0xBF#8 = b' &&& 0xBF#8 → c &&& 0xFA#8 = c' &&& 0xFA#8 → ∃ t u,
      exec (.decodeFrame (.bytes [b, c, f2, f3, f4, f5, f6, f7])) s = .next t ∧
      exec (.decodeFrame (.bytes [b', c', f2, f3, f4, f5, f6, f7])) s = .next u ∧ t.out.ok = true ∧ t.out = u.out

/-- R137: a command constant fed to `DECODE_FRAME` is treated as any 8 bytes. -/
def Obligations.CommandFrameFedBackIsAnyFrame : Prop :=
  ∀ s : State, ∃ t, exec (.decodeFrame (.bytes [0xB3#8, 0#8, 0#8, 0#8, 0#8, 0#8, 0#8, 0#8])) s = .next t ∧
    t.out.ok = true ∧ t.out.priMant = 0 ∧ t.out.priExp = 0 ∧ t.out.secMant = 0 ∧ t.out.secExp = 0 ∧ t.out.settings = 0x3980#14

/-- R86: with `FLOAT_RENDER` instantiated, the three documented pairs render as the documented floats, on either output. -/
def Obligations.DocumentedFloatsAreRendered : Prop :=
  ∀ (b c f5 f6 f7 : Byte) (s : State),
    (∃ t, exec (.decodeFrame (.bytes [b, c, 0x01#8, 0x00#8, 0x00#8, f5, f6, f7])) s = .next t ∧ t.out.priFloat = .finite 256) ∧
    (∃ t, exec (.decodeFrame (.bytes [b, c, 0x00#8, 0x0A#8, 0x02#8, f5, f6, f7])) s = .next t ∧ t.out.priFloat = .finite 1000) ∧
    (∃ t, exec (.decodeFrame (.bytes [b, c, f5, f6, f7, 0x00#8, 0x05#8, 0xFF#8])) s = .next t ∧ t.out.secFloat = .finite (mkRat 1 2))

/-- The recommended instance of `FLOAT_RENDER` meets the three laws of R86; that binary64 stands for it is the spec's recommendation, not
assumed by the model (log 11). -/
def Obligations.RecommendedFloatMeetsTheLaws : Prop := FloatRenderLaws floatRenderBinary64

/-! ### `DECODE_VALUE24` -/

/-- R80, R89: the pair, the number and the wiring; nothing else changes. -/
def Obligations.DecodeValue24GivesThePair : Prop :=
  ∀ (b0 b1 b2 : Byte) (s : State),
    exec (.decodeValue24 b0 b1 b2) s =
      .next { s with decfp24 := { t := b0 ++ b1 ++ b2, mant := (b0 ++ b1 ++ b2).extractLsb' 8 16, exp := (b0 ++ b1 ++ b2).extractLsb' 0 8 } } ∧
    valueOfSignals ((b0 ++ b1 ++ b2).extractLsb' 8 16) ((b0 ++ b1 ++ b2).extractLsb' 0 8) =
      { m := 256 * b0.toNat + b1.toNat, e := if b2.toNat > 127 then (b2.toNat : Int) - 256 else b2.toNat } ∧
    denoted (decodeValue24 b0 b1 b2) =
      ((256 * b0.toNat + b1.toNat : Nat) : Rat) * 10 ^ (if b2.toNat > 127 then (b2.toNat : Int) - 256 else b2.toNat)

/-- R81: the mantissa is a bijection between byte pairs and 0..65535, zero exactly at the zero pair. -/
def Obligations.MantissaIsABijection : Prop :=
  (∀ b0 b1 b2 : Byte, (decodeValue24 b0 b1 b2).m = 256 * b0.toNat + b1.toNat ∧ (decodeValue24 b0 b1 b2).m ≤ 65535 ∧
    ((decodeValue24 b0 b1 b2).m = 0 ↔ b0 = 0 ∧ b1 = 0)) ∧
  (∀ m : Nat, m ≤ 65535 → ∃! p : Byte × Byte, ∀ b2, (decodeValue24 p.1 p.2 b2).m = m)

/-- R82: the exponent is the two's-complement reading, a bijection between bytes and -128..127; the test is bit 7. -/
def Obligations.ExponentIsABijection : Prop :=
  (∀ b0 b1 b2 : Byte, (decodeValue24 b0 b1 b2).e = (if b2.toNat ≤ 127 then (b2.toNat : Int) else b2.toNat - 256) ∧
    (b2.toNat > 127 ↔ b2.getLsbD 7 = true) ∧ -128 ≤ (decodeValue24 b0 b1 b2).e ∧ (decodeValue24 b0 b1 b2).e ≤ 127) ∧
  (∀ e : Int, -128 ≤ e → e ≤ 127 → ∃! b2 : Byte, ∀ b0 b1, (decodeValue24 b0 b1 b2).e = e)

/-- R84 (a), (c), (d): the number is never negative, lies between the smallest and the largest when it is not zero, and is an integer for a
non-negative exponent. -/
def Obligations.DenotedValueRange : Prop :=
  ∀ b0 b1 b2 : Byte,
    0 ≤ denoted (decodeValue24 b0 b1 b2) ∧
    (denoted (decodeValue24 b0 b1 b2) ≠ 0 →
      denoted (decodeValue24 0x00#8 0x01#8 0x80#8) ≤ denoted (decodeValue24 b0 b1 b2)) ∧
    denoted (decodeValue24 b0 b1 b2) ≤ denoted (decodeValue24 0xFF#8 0xFF#8 0x7F#8) ∧
    (b2.toNat ≤ 127 → ∃ n : Nat, denoted (decodeValue24 b0 b1 b2) = n) ∧
    (127 < b2.toNat → ∃ n : Nat, denoted (decodeValue24 b0 b1 b2) * 10 ^ (256 - b2.toNat) = n)

/-- R85: the encoding is redundant. Zero has the 256 encodings with a zero mantissa and no other, and 1000 has the five named pairs. -/
def Obligations.EncodingsAreRedundant : Prop :=
  (∀ b0 b1 b2 : Byte, denoted (decodeValue24 b0 b1 b2) = 0 ↔ b0 = 0 ∧ b1 = 0) ∧
  [decodeValue24 0x03#8 0xE8#8 0x00#8, decodeValue24 0x00#8 0x64#8 0x01#8, decodeValue24 0x00#8 0x0A#8 0x02#8,
    decodeValue24 0x00#8 0x01#8 0x03#8, decodeValue24 0x27#8 0x10#8 0xFF#8] =
    [{ m := 1000, e := 0 }, { m := 100, e := 1 }, { m := 10, e := 2 }, { m := 1, e := 3 }, { m := 10000, e := -1 }] ∧
  denoted { m := 1000, e := 0 } = 1000 ∧ denoted { m := 100, e := 1 } = 1000 ∧ denoted { m := 10, e := 2 } = 1000 ∧
  denoted { m := 1, e := 3 } = 1000 ∧ denoted { m := 10000, e := -1 } = 1000

/-! ### `EXTRACT_FLAGS` -/

/-- R114: the packed vector as Boolean equations over the two bytes; nothing else changes. -/
def Obligations.ExtractFlagsDrivesThePackedVector : Prop :=
  ∀ (b c : Byte) (s : State),
    exec (.extractFlags b c) s = .next { s with flagx := { b := b, c := c, settings := settingsEquations b c } }

/-- R100: the thirteen strings, read back from the output by the codes of R25. -/
def Obligations.ExtractFlagsGivesTheThirteenStrings : Prop :=
  ∀ (b c : Byte) (s : State), ∃ t, exec (.extractFlags b c) s = .next t ∧
    unpackSettings t.flagx.settings = some
      { mode := if b.getLsbD 7 then "VEL".toList else "FLOW".toList
        deg := if b.getLsbD 5 then "C".toList else "F".toList
        mph := if b.getLsbD 4 && b.getLsbD 7 then "mph".toList else []
        knot := if b.getLsbD 3 && b.getLsbD 7 then "knot".toList else []
        ftMin := if b.getLsbD 2 && b.getLsbD 7 then "ft/min".toList else []
        kmh := if b.getLsbD 1 && b.getLsbD 7 then "km/h".toList else []
        mS := if b.getLsbD 0 && b.getLsbD 7 then "m/s".toList else []
        max := if c.getLsbD 7 then "max".toList else []
        min := if c.getLsbD 6 then "min".toList else []
        avg := if c.getLsbD 5 then "avg".toList else []
        twoThird := if c.getLsbD 4 then "2/3".toList else []
        cmmCfm := if b.getLsbD 7 then [] else if c.getLsbD 3 then "CFM".toList else "CMM".toList
        hold := if c.getLsbD 1 then "hold".toList else [] }

/-- R118: the table and the pseudocode say the same thing. -/
def Obligations.TableAndPseudocodeAgree : Prop :=
  ∀ b c : Byte, fieldsByTable b c = fieldValues (extractFlags b c)

/-- R115: in FLOW mode the five unit fields are empty whatever their bits; in VEL mode `cmm_cfm` is empty whatever its bit. -/
def Obligations.ModeGatesTheUnits : Prop :=
  ∀ b c : Byte,
    (b.getLsbD 7 = false → (extractFlags b c).mph = [] ∧ (extractFlags b c).knot = [] ∧ (extractFlags b c).ftMin = [] ∧
      (extractFlags b c).kmh = [] ∧ (extractFlags b c).mS = [] ∧ (extractFlags b c).cmmCfm ≠ []) ∧
    (b.getLsbD 7 = true → (extractFlags b c).cmmCfm = [])

/-- R117: the records the block produces are the reachable ones, 2048 in VEL mode, 128 in FLOW mode, 2176 in all. -/
def Obligations.ProducedRecordsAreTheReachableOnes : Prop :=
  (∀ r : SettingsFlags, (∃ b c : Byte, extractFlags b c = r) ↔ r.reachable = true) ∧
  Set.ncard {r : SettingsFlags | (∃ b c : Byte, extractFlags b c = r) ∧ r.mode = "VEL".toList} = 2048 ∧
  Set.ncard {r : SettingsFlags | (∃ b c : Byte, extractFlags b c = r) ∧ r.mode = "FLOW".toList} = 128 ∧
  Set.ncard {r : SettingsFlags | ∃ b c : Byte, extractFlags b c = r} = 2176

/-! ### The host view -/

/-- R150, on every record (R154): the concatenation in VEL mode, `cmm_cfm` otherwise; nothing else changes. -/
def Obligations.PrimaryUnitConcatenates : Prop :=
  ∀ (r : SettingsFlags) (s : State), exec (.primaryUnit r) s = .next { s with primaryUnit :=
    if r.mode = "VEL".toList then r.mph ++ (r.knot ++ (r.ftMin ++ (r.kmh ++ r.mS))) else r.cmmCfm }

/-- R150 on the records the block produces: the units of the bits set, and in FLOW mode never the empty string. -/
def Obligations.PrimaryUnitOfAProducedRecord : Prop :=
  ∀ (b c : Byte) (s : State), ∃ t, exec (.primaryUnit (extractFlags b c)) s = .next t ∧
    (b.getLsbD 7 = true → t.primaryUnit =
      (if b.getLsbD 4 then "mph".toList else []) ++ (if b.getLsbD 3 then "knot".toList else []) ++
      (if b.getLsbD 2 then "ft/min".toList else []) ++ (if b.getLsbD 1 then "km/h".toList else []) ++
      (if b.getLsbD 0 then "m/s".toList else [])) ∧
    (b.getLsbD 7 = false → t.primaryUnit = if c.getLsbD 3 then "CFM".toList else "CMM".toList)

/-- R151: `"deg-"` and the degree, and on a produced record `"deg-C"` or `"deg-F"` whatever the mode; nothing else changes. -/
def Obligations.SecondaryUnitIsDeg : Prop :=
  (∀ (r : SettingsFlags) (s : State), exec (.secondaryUnit r) s = .next { s with secondaryUnit := 'd' :: 'e' :: 'g' :: '-' :: r.deg }) ∧
  (∀ (b c : Byte) (s : State), ∃ t, exec (.secondaryUnit (extractFlags b c)) s = .next t ∧
    t.secondaryUnit = if b.getLsbD 5 then "deg-C".toList else "deg-F".toList)

/-- R152, R153: the thirteen values right-justified and joined with commas; nothing else changes. That the fill is spaces on the left and
that a longer value is not cut is PRESUMED (log 20): the spec fixes it as its own choice from general knowledge (D21). -/
def Obligations.RenderJoinsJustifiedFields : Prop :=
  ∀ (r : SettingsFlags) (w : Nat) (s : State),
    exec (.render r w) s = .next
      { s with
        rendered :=
          List.intercalate [',']
            ([r.mode, r.deg, r.mph, r.knot, r.ftMin, r.kmh, r.mS, r.max, r.min, r.avg, r.twoThird, r.cmmCfm, r.hold].map
              fun v => List.replicate (max 0 (w - v.length)) ' ' ++ v) }

/-- R155: the length law, and its closed form for widths of 6 and more. It rests on a longer value not being cut, which is PRESUMED (log 20). -/
def Obligations.RenderLengthLaw : Prop :=
  ∀ (r : SettingsFlags) (w : Nat) (s : State), ∃ t, exec (.render r w) s = .next t ∧
    t.rendered.length = 12 + ([r.mode, r.deg, r.mph, r.knot, r.ftMin, r.kmh, r.mS, r.max, r.min, r.avg, r.twoThird, r.cmmCfm,
      r.hold].map fun v => max w v.length).sum ∧
    (r.inSets = true → 6 ≤ w → t.rendered.length = 13 * w + 12)

/-- The host functions of a reading are handed one of the 2176 records, never a malformed one (R154, R117). -/
def Obligations.ReadingsGiveWellFormedHostFunctions : Prop :=
  ∀ (o : Outputs) (w : Nat), o.Sound → o.ok = true →
    ∃ r : SettingsFlags, r.reachable = true ∧
      decode { iface := .primaryUnit, bytes := settingsBytes o.settings } = .ok (.primaryUnit r) ∧
      decode { iface := .secondaryUnit, bytes := settingsBytes o.settings } = .ok (.secondaryUnit r) ∧
      decode { iface := .render w, bytes := settingsBytes o.settings } = .ok (.render r w)

/-! ### The output register and the transport -/

/-- R196: with `OUT_REG = 1` a rising edge with `rst = 0` latches the combinational outputs and changes nothing else; with `rst = 1` the
three flags go to 0, the data being unspecified. -/
def Obligations.ClockEdgeLatchesOrResets : Prop :=
  ∀ (s : State) (rest : List Action), s.outRegPresent = true →
    (s.pending = .clockEdge false :: rest → step s = .next { s with pending := rest, rst := false, outReg := s.out }) ∧
    (s.pending = .clockEdge true :: rest → ∃ t, step s = .next t ∧
      t.outReg.ok = false ∧ t.outReg.errBadLength = false ∧ t.outReg.endOfStream = false ∧
      t = { s with pending := rest, rst := true, outReg := t.outReg, freeDraws := t.freeDraws })

/-- R196, R7: with `OUT_REG = 0` the outputs the caller sees after `DECODE_FRAME` are those of R130 for its event; with `OUT_REG = 1` they
stay what they were, and are those of R130 for the event once a rising edge with `rst = 0` has come (whatever they were before it). -/
def Obligations.OutputsAppearAtOnceOrAtTheNextEdge : Prop :=
  ∀ (ev : RxEvent) (s : State), ∃ t, exec (.decodeFrame ev) s = .next t ∧
    (s.outRegPresent = false → t.visibleOutputs.outcome = some (outcomeOf ev)) ∧
    (s.outRegPresent = true → t.visibleOutputs = s.visibleOutputs ∧
      ∀ rest, ∃ u, step { t with pending := .clockEdge false :: rest } = .next u ∧ u.visibleOutputs.outcome = some (outcomeOf ev))

/-- `OUT_REG` is a parameter (R7): no step changes it. With `OUT_REG = 0` there is no clock, no reset input and no register (R195): that the
caller's action of a clock edge then changes nothing is the model's choice (log 12). -/
def Obligations.OutRegIsAParameter : Prop :=
  (∀ s t : State, step s = .next t → t.outRegPresent = s.outRegPresent) ∧
  (∀ (s : State) (rest : List Action) (rst : Bool), s.outRegPresent = false → s.pending = .clockEdge rst :: rest →
    step s = .next { s with pending := rest })

/-- `SEND` hands `tx_data` to the transport and `RECV` takes the environment's next answer, a timeout where none is left (R176, R208; the
list of answers and its end are the model's, log 16 and log 17). -/
def Obligations.TransportCallsAreRecorded : Prop :=
  ∀ (s : State) (rest : List Action),
    (s.pending = .send :: rest → step s = .next { s with pending := rest, history := s.history ++ [.send s.txData] }) ∧
    (∀ ev evs, s.pending = .recv :: rest → s.answers = ev :: evs → step s = .next { s with
      pending := rest, received := ev :: s.received, answers := evs, history := s.history ++ [.receive Config.rxTimeoutMs ev] }) ∧
    (s.pending = .recv :: rest → s.answers = [] → step s = .next { s with
      pending := rest, received := .timeout :: s.received, history := s.history ++ [.receive Config.rxTimeoutMs .timeout] })

/-- The transport sees the caller's calls in the caller's order (R44 (c)): a step only appends to the history, at most one interaction, and
a send, a receive or an evaluation of a received event only by the action that makes it. -/
def Obligations.TransportSeesProgramOrder : Prop :=
  ∀ s t : State, step s = .next t → ∃ calls : List Interaction, t.history = s.history ++ calls ∧ calls.length ≤ 1 ∧
    (∀ frame, .send frame ∈ calls → ∃ rest, s.pending = .send :: rest) ∧
    (∀ ms answer, .receive ms answer ∈ calls → ∃ rest, s.pending = .recv :: rest) ∧
    (∀ n ev, .evaluate n ev ∈ calls →
      ∃ back rest, s.pending = .decodeReceived back :: rest ∧ s.received[back]? = some ev ∧ n = s.receiveNumber back)

/-- A receive never breaks the caller's duties R200, R205 and R208, in a stream or out of it and whatever is owed (a caller may receive
ahead), as long as the caller has something to do after it, or no stream is running and no event of one is owed. That any receive closes an
outstanding command, and the caller's policy on a `BadLength` (any), are the model's (log 28). -/
def Obligations.ReceivingKeepsTheDuties : Prop :=
  ∀ (s t : State) (rest : List Action) (abort : Bool), s.DutiesKept abort →
    (rest = [] → ∃ p, s.callerPhase = some p ∧ p.settled = true) →
    s.pending = .recv :: rest → step s = .next t → t.DutiesKept abort

/-- R208: "pass every event of a stream, in order, one evaluation each", and the liberty "to decode or not, after `READ_CURRENT`". The event
a stream owes next is one the caller holds, and its evaluation, however late and however many were received ahead, pays for it and breaks
nothing. An evaluation of an event of a stream that has been evaluated, during the stream or after it, or before an older event of its stream
breaks the duties. An evaluation of an event of no stream pays for nothing and breaks nothing, at any time, in a stream too. That
`DECODE_FRAME` invoked on an operand written out is of no receive event, and that the timeout which ends a stream is one of its events, is
DEDUCED (log 28). -/
def Obligations.EveryStreamEventIsPassedOnce : Prop :=
  ∀ (s : State) (p : CallerPhase), s.callerPhase = some p →
    (∀ st ∈ p.streams, ∀ n later, s.Inv → st.owed = n :: later → ∃ back ev, s.received[back]? = some ev ∧ s.receiveNumber back = n ∧
      ∀ rest, ∃ t, step { s with pending := .decodeReceived back :: rest } = .next t ∧
        t.callerPhase = some { p with streams := p.streams.map (·.afterEvaluate n ev) } ∧
        st.afterEvaluate n ev = { st with
          owed := later, passed := st.passed ++ [n], lastWasBad := decide (outcomeOf ev = .error .badLength) }) ∧
    (∀ (t : State) (back : Nat) (rest : List Action) (abort : Bool), s.pending = .decodeReceived back :: rest → step s = .next t →
      (∃ st ∈ p.streams, s.receiveNumber back ∈ st.passed ∨ s.receiveNumber back ∈ st.owed.tail) → ¬t.DutiesKept abort) ∧
    (∀ (t : State) (back : Nat) (rest : List Action), s.pending = .decodeReceived back :: rest → step s = .next t →
      (∀ st ∈ p.streams, s.receiveNumber back ∉ st.events) → t.callerPhase = some p) ∧
    (∀ (t : State) (ev : RxEvent) (rest : List Action), s.pending = .invoke (requestOfEvent ev) :: rest → step s = .next t →
      t.callerPhase = some p)

/-- R200: once `READ_RECORDS_START` is sent a stream is running, and each receive adds its event to what the stream owes, until one answers
`Timeout`. While a stream is running a send breaks the duties: DEDUCED from one command at a time (R205, R208), and, that it does so after a
`BadLength` too, whatever the policy, a DESIGN CHOICE (log 28). A caller with nothing more to do while a stream is running or owes an event
does not keep them (DEDUCED, log 28), unless its policy lets it abort on a `BadLength` and its last interaction with each such stream was an
evaluation that gave one (R179, U12: the caller's policy, a parameter, log 28). That any receive closes an open command is the model's (log
28). -/
def Obligations.StreamMustBeDrained : Prop :=
  (∀ (s t : State) (rest : List Action) (p : CallerPhase), s.callerPhase = some p → p.commandOpen = false → p.streaming = false →
    s.txData = 0xC400000000000000#64 → s.pending = .send :: rest → step s = .next t →
      t.callerPhase = some { p with streams := .begun :: p.streams }) ∧
  (∀ (s t : State) (rest : List Action) (p : CallerPhase) (st : StreamPhase) (past : List StreamPhase), s.callerPhase = some p →
    p.streams = st :: past → st.running = true → s.pending = .recv :: rest → step s = .next t → t.callerPhase = some
      { commandOpen := false
        receives := p.receives + 1
        streams := { st with
          running := decide (s.nextAnswer ≠ .timeout), owed := st.owed ++ [p.receives], lastWasBad := false } :: past }) ∧
  (∀ (s t : State) (rest : List Action) (p : CallerPhase) (abort : Bool), s.callerPhase = some p → p.streaming = true →
    s.pending = .send :: rest → step s = .next t → ¬t.DutiesKept abort) ∧
  (∀ (s : State) (p : CallerPhase), s.callerPhase = some p → s.pending = [] →
    (∃ st ∈ p.streams, st.running = true ∨ st.owed ≠ []) →
      ¬s.DutiesKept false ∧
      (s.DutiesKept true ↔ ∀ st ∈ p.streams, st.running = true ∨ st.owed ≠ [] → st.lastWasBad = true))

/-- `READ_ALL`'s loop: after an evaluation whose outcome the caller sees, the round ends at the end of the stream and otherwise goes on with
the outcome appended (R70; the action is the model's, log 17). -/
def Obligations.CollectGoesRoundUntilEndOfStream : Prop :=
  ∀ (s : State) (rest : List Action), s.visibleOutputs.Sound → s.pending = .collect :: rest →
    (s.visibleOutputs.endOfStream = true → step s = .next { s with pending := rest }) ∧
    (s.visibleOutputs.ok = true ∨ s.visibleOutputs.errBadLength = true →
      ∃ o, s.visibleOutputs.outcome = some o ∧ o ≠ .endOfStream ∧ step s = .next { s with
        pending := readRound s.outRegPresent ++ rest, collected := s.collected ++ [o] })

/-! ### The whole machine -/

/-- Every instruction completes in every state: no operation of the block faults or refuses (R66, R170, R180, R181). -/
def Obligations.EveryInstructionCompletes : Prop :=
  ∀ (i : Instr) (s : State), ∃ t, exec i s = .next t

/-- No step faults: a `MemRead` is never applied out of range (R41). -/
def Obligations.NoStepFaults : Prop :=
  ∀ (s : State) (f : Fault), step s ≠ .fault f

/-- What each operation leaves alone (R136, R139, R157): only `DECODE_FRAME` changes the block's receive inputs, its outputs or a byte of the
frame buffer; only the commands change `tx_data`; each sub-block and each string changes by its own operation; no operation touches the
output register, its parameter or the caller's side. -/
def Obligations.OperationsChangeOnlyTheirOwn : Prop :=
  ∀ (i : Instr) (s t : State), exec i s = .next t →
    ((∀ ev, i ≠ .decodeFrame ev) → t.rxTimeout = s.rxTimeout ∧ t.rxLen = s.rxLen ∧ t.out = s.out ∧ t.freeDraws = s.freeDraws ∧
      ∀ a, readByte t.frame a = readByte s.frame a) ∧
    (i ≠ .readCurrent → i ≠ .readRecordsStart → t.txData = s.txData ∧ t.cmdSel = s.cmdSel) ∧
    ((∀ b0 b1 b2, i ≠ .decodeValue24 b0 b1 b2) → t.decfp24 = s.decfp24) ∧
    ((∀ b c, i ≠ .extractFlags b c) → t.flagx = s.flagx) ∧
    ((∀ r, i ≠ .primaryUnit r) → t.primaryUnit = s.primaryUnit) ∧
    ((∀ r, i ≠ .secondaryUnit r) → t.secondaryUnit = s.secondaryUnit) ∧
    ((∀ r w, i ≠ .render r w) → t.rendered = s.rendered) ∧
    t.outRegPresent = s.outRegPresent ∧ t.rst = s.rst ∧ t.outReg = s.outReg ∧ t.pending = s.pending ∧ t.received = s.received ∧
    t.answers = s.answers ∧ t.history = s.history ∧ t.collected = s.collected

/-- The invariant holds after reset (R33, R195, R196; on the inputs the model chose, log 5). -/
def Obligations.InvHoldsAtReset : Prop := State.reset.Inv

/-- Every step keeps the invariant: the outputs follow the inputs (R195), the frame buffer keeps its form (R35), `tx_data` follows `cmd_sel`
(R136), the sub-blocks' outputs follow theirs (R89, R100), only the two constants are ever sent (R67), every evaluation of a received event in
the history was of what its receive brought and the events of the streams are distinct receives (R208), the register holds outputs of an evaluation or of its reset (R196). -/
def Obligations.EveryStepKeepsTheInvariant : Prop :=
  ∀ s t : State, s.Inv → step s = .next t → t.Inv

/-- Progress: a step whose action has what it needs answers a next state (R207; what an action needs is `State.Ready`). -/
def Obligations.ReadyStepsComplete : Prop :=
  ∀ s : State, s.visibleOutputs.Sound → s.Ready → ∃ t, step s = .next t

/-- `READ_ALL` (R70, R135, R200, R208): started between commands with every earlier stream settled, whatever calls came before and with
`OUT_REG` 0 or 1, for every stream of byte sequences ended by a timeout the expansion runs to its end in a fixed number of steps, has gathered
exactly the outcomes of the sequences in order, good and bad, has taken no answer past the timeout, and has kept the caller's duties: no
stream is left open, and every event of the new one, the timeout too, was evaluated once and in order, whatever the policy on a `BadLength`
(READ_ALL goes on after one, as R70's loop does; log 28). The actions it expands to, and that its list starts empty, are the model's (log
17). -/
def Obligations.ReadAllGathersTheStream : Prop :=
  ∀ (s : State) (p : CallerPhase) (stream : List (List Byte)) (later : List RxEvent),
    s.pending = readAll s.outRegPresent → s.answers = stream.map .bytes ++ .timeout :: later →
    s.CallerHeld → s.callerPhase = some p → p.commandOpen = false → p.settled = true →
    ∃ t : State, core.run (3 + (readRound s.outRegPresent).length * (stream.length + 1)) s = .next t ∧
      t.pending = [] ∧ t.answers = later ∧ t.collected = stream.map (fun bs => outcomeOf (.bytes bs)) ∧
      t.visibleOutputs.endOfStream = true ∧ (∀ abort, t.DutiesKept abort) ∧
      t.callerPhase = some
        { commandOpen := false
          receives := p.receives + (stream.length + 1)
          streams := { running := false, owed := [], passed := List.range' p.receives (stream.length + 1), lastWasBad := false } :: p.streams }
end

