-- ==== Sys2Proof/Laws/State.lean ====
section
/-!
SUPPORT. For every update of the state, one lemma per field, so that no proof unfolds a record update.
-/

namespace Sys2Proof.Machine

/-! ### driveBytes -/

@[simp] theorem State.driveBytes_rxTimeout (s : State) (bs : List Byte) : (s.driveBytes bs).rxTimeout = false := rfl
@[simp] theorem State.driveBytes_rxLen (s : State) (bs : List Byte) : (s.driveBytes bs).rxLen = bs.length := rfl
@[simp] theorem State.driveBytes_frame (s : State) (bs : List Byte) : (s.driveBytes bs).frame = loadFrame bs := rfl
@[simp] theorem State.driveBytes_cmdSel (s : State) (bs : List Byte) : (s.driveBytes bs).cmdSel = s.cmdSel := rfl
@[simp] theorem State.driveBytes_outRegPresent (s : State) (bs : List Byte) : (s.driveBytes bs).outRegPresent = s.outRegPresent := rfl
@[simp] theorem State.driveBytes_rst (s : State) (bs : List Byte) : (s.driveBytes bs).rst = s.rst := rfl
@[simp] theorem State.driveBytes_out (s : State) (bs : List Byte) : (s.driveBytes bs).out = s.out := rfl
@[simp] theorem State.driveBytes_txData (s : State) (bs : List Byte) : (s.driveBytes bs).txData = s.txData := rfl
@[simp] theorem State.driveBytes_outReg (s : State) (bs : List Byte) : (s.driveBytes bs).outReg = s.outReg := rfl
@[simp] theorem State.driveBytes_decfp24 (s : State) (bs : List Byte) : (s.driveBytes bs).decfp24 = s.decfp24 := rfl
@[simp] theorem State.driveBytes_flagx (s : State) (bs : List Byte) : (s.driveBytes bs).flagx = s.flagx := rfl
@[simp] theorem State.driveBytes_primaryUnit (s : State) (bs : List Byte) : (s.driveBytes bs).primaryUnit = s.primaryUnit := rfl
@[simp] theorem State.driveBytes_secondaryUnit (s : State) (bs : List Byte) : (s.driveBytes bs).secondaryUnit = s.secondaryUnit := rfl
@[simp] theorem State.driveBytes_rendered (s : State) (bs : List Byte) : (s.driveBytes bs).rendered = s.rendered := rfl
@[simp] theorem State.driveBytes_pending (s : State) (bs : List Byte) : (s.driveBytes bs).pending = s.pending := rfl
@[simp] theorem State.driveBytes_received (s : State) (bs : List Byte) : (s.driveBytes bs).received = s.received := rfl
@[simp] theorem State.driveBytes_answers (s : State) (bs : List Byte) : (s.driveBytes bs).answers = s.answers := rfl
@[simp] theorem State.driveBytes_history (s : State) (bs : List Byte) : (s.driveBytes bs).history = s.history := rfl
@[simp] theorem State.driveBytes_collected (s : State) (bs : List Byte) : (s.driveBytes bs).collected = s.collected := rfl
@[simp] theorem State.driveBytes_freeDraws (s : State) (bs : List Byte) : (s.driveBytes bs).freeDraws = s.freeDraws := rfl

/-! ### driveTimeout -/

@[simp] theorem State.driveTimeout_rxTimeout (s : State) : (s.driveTimeout).rxTimeout = true := rfl
@[simp] theorem State.driveTimeout_rxLen (s : State) : (s.driveTimeout).rxLen = Config.freeRxLen s.freeDraws := rfl
@[simp] theorem State.driveTimeout_frame (s : State) : (s.driveTimeout).frame = [] := rfl
@[simp] theorem State.driveTimeout_cmdSel (s : State) : (s.driveTimeout).cmdSel = s.cmdSel := rfl
@[simp] theorem State.driveTimeout_outRegPresent (s : State) : (s.driveTimeout).outRegPresent = s.outRegPresent := rfl
@[simp] theorem State.driveTimeout_rst (s : State) : (s.driveTimeout).rst = s.rst := rfl
@[simp] theorem State.driveTimeout_out (s : State) : (s.driveTimeout).out = s.out := rfl
@[simp] theorem State.driveTimeout_txData (s : State) : (s.driveTimeout).txData = s.txData := rfl
@[simp] theorem State.driveTimeout_outReg (s : State) : (s.driveTimeout).outReg = s.outReg := rfl
@[simp] theorem State.driveTimeout_decfp24 (s : State) : (s.driveTimeout).decfp24 = s.decfp24 := rfl
@[simp] theorem State.driveTimeout_flagx (s : State) : (s.driveTimeout).flagx = s.flagx := rfl
@[simp] theorem State.driveTimeout_primaryUnit (s : State) : (s.driveTimeout).primaryUnit = s.primaryUnit := rfl
@[simp] theorem State.driveTimeout_secondaryUnit (s : State) : (s.driveTimeout).secondaryUnit = s.secondaryUnit := rfl
@[simp] theorem State.driveTimeout_rendered (s : State) : (s.driveTimeout).rendered = s.rendered := rfl
@[simp] theorem State.driveTimeout_pending (s : State) : (s.driveTimeout).pending = s.pending := rfl
@[simp] theorem State.driveTimeout_received (s : State) : (s.driveTimeout).received = s.received := rfl
@[simp] theorem State.driveTimeout_answers (s : State) : (s.driveTimeout).answers = s.answers := rfl
@[simp] theorem State.driveTimeout_history (s : State) : (s.driveTimeout).history = s.history := rfl
@[simp] theorem State.driveTimeout_collected (s : State) : (s.driveTimeout).collected = s.collected := rfl
@[simp] theorem State.driveTimeout_freeDraws (s : State) : (s.driveTimeout).freeDraws = s.freeDraws + 1 := rfl

/-! ### selectCommand -/

@[simp] theorem State.selectCommand_rxTimeout (s : State) (sel : Bool) : (s.selectCommand sel).rxTimeout = s.rxTimeout := rfl
@[simp] theorem State.selectCommand_rxLen (s : State) (sel : Bool) : (s.selectCommand sel).rxLen = s.rxLen := rfl
@[simp] theorem State.selectCommand_frame (s : State) (sel : Bool) : (s.selectCommand sel).frame = s.frame := rfl
@[simp] theorem State.selectCommand_cmdSel (s : State) (sel : Bool) : (s.selectCommand sel).cmdSel = sel := rfl
@[simp] theorem State.selectCommand_outRegPresent (s : State) (sel : Bool) : (s.selectCommand sel).outRegPresent = s.outRegPresent := rfl
@[simp] theorem State.selectCommand_rst (s : State) (sel : Bool) : (s.selectCommand sel).rst = s.rst := rfl
@[simp] theorem State.selectCommand_out (s : State) (sel : Bool) : (s.selectCommand sel).out = s.out := rfl
@[simp] theorem State.selectCommand_txData (s : State) (sel : Bool) : (s.selectCommand sel).txData = commandWord sel := rfl
@[simp] theorem State.selectCommand_outReg (s : State) (sel : Bool) : (s.selectCommand sel).outReg = s.outReg := rfl
@[simp] theorem State.selectCommand_decfp24 (s : State) (sel : Bool) : (s.selectCommand sel).decfp24 = s.decfp24 := rfl
@[simp] theorem State.selectCommand_flagx (s : State) (sel : Bool) : (s.selectCommand sel).flagx = s.flagx := rfl
@[simp] theorem State.selectCommand_primaryUnit (s : State) (sel : Bool) : (s.selectCommand sel).primaryUnit = s.primaryUnit := rfl
@[simp] theorem State.selectCommand_secondaryUnit (s : State) (sel : Bool) : (s.selectCommand sel).secondaryUnit = s.secondaryUnit := rfl
@[simp] theorem State.selectCommand_rendered (s : State) (sel : Bool) : (s.selectCommand sel).rendered = s.rendered := rfl
@[simp] theorem State.selectCommand_pending (s : State) (sel : Bool) : (s.selectCommand sel).pending = s.pending := rfl
@[simp] theorem State.selectCommand_received (s : State) (sel : Bool) : (s.selectCommand sel).received = s.received := rfl
@[simp] theorem State.selectCommand_answers (s : State) (sel : Bool) : (s.selectCommand sel).answers = s.answers := rfl
@[simp] theorem State.selectCommand_history (s : State) (sel : Bool) : (s.selectCommand sel).history = s.history := rfl
@[simp] theorem State.selectCommand_collected (s : State) (sel : Bool) : (s.selectCommand sel).collected = s.collected := rfl
@[simp] theorem State.selectCommand_freeDraws (s : State) (sel : Bool) : (s.selectCommand sel).freeDraws = s.freeDraws := rfl

/-! ### driveReading -/

@[simp] theorem State.driveReading_rxTimeout (s : State) (r : DecodedReading) : (s.driveReading r).rxTimeout = s.rxTimeout := rfl
@[simp] theorem State.driveReading_rxLen (s : State) (r : DecodedReading) : (s.driveReading r).rxLen = s.rxLen := rfl
@[simp] theorem State.driveReading_frame (s : State) (r : DecodedReading) : (s.driveReading r).frame = s.frame := rfl
@[simp] theorem State.driveReading_cmdSel (s : State) (r : DecodedReading) : (s.driveReading r).cmdSel = s.cmdSel := rfl
@[simp] theorem State.driveReading_outRegPresent (s : State) (r : DecodedReading) : (s.driveReading r).outRegPresent = s.outRegPresent := rfl
@[simp] theorem State.driveReading_rst (s : State) (r : DecodedReading) : (s.driveReading r).rst = s.rst := rfl
@[simp] theorem State.driveReading_out (s : State) (r : DecodedReading) : (s.driveReading r).out = Outputs.ofReading r := rfl
@[simp] theorem State.driveReading_txData (s : State) (r : DecodedReading) : (s.driveReading r).txData = s.txData := rfl
@[simp] theorem State.driveReading_outReg (s : State) (r : DecodedReading) : (s.driveReading r).outReg = s.outReg := rfl
@[simp] theorem State.driveReading_decfp24 (s : State) (r : DecodedReading) : (s.driveReading r).decfp24 = s.decfp24 := rfl
@[simp] theorem State.driveReading_flagx (s : State) (r : DecodedReading) : (s.driveReading r).flagx = s.flagx := rfl
@[simp] theorem State.driveReading_primaryUnit (s : State) (r : DecodedReading) : (s.driveReading r).primaryUnit = s.primaryUnit := rfl
@[simp] theorem State.driveReading_secondaryUnit (s : State) (r : DecodedReading) : (s.driveReading r).secondaryUnit = s.secondaryUnit := rfl
@[simp] theorem State.driveReading_rendered (s : State) (r : DecodedReading) : (s.driveReading r).rendered = s.rendered := rfl
@[simp] theorem State.driveReading_pending (s : State) (r : DecodedReading) : (s.driveReading r).pending = s.pending := rfl
@[simp] theorem State.driveReading_received (s : State) (r : DecodedReading) : (s.driveReading r).received = s.received := rfl
@[simp] theorem State.driveReading_answers (s : State) (r : DecodedReading) : (s.driveReading r).answers = s.answers := rfl
@[simp] theorem State.driveReading_history (s : State) (r : DecodedReading) : (s.driveReading r).history = s.history := rfl
@[simp] theorem State.driveReading_collected (s : State) (r : DecodedReading) : (s.driveReading r).collected = s.collected := rfl
@[simp] theorem State.driveReading_freeDraws (s : State) (r : DecodedReading) : (s.driveReading r).freeDraws = s.freeDraws := rfl

/-! ### driveNoReading -/

@[simp] theorem State.driveNoReading_rxTimeout (s : State) (bad eos : Bool) : (s.driveNoReading bad eos).rxTimeout = s.rxTimeout := rfl
@[simp] theorem State.driveNoReading_rxLen (s : State) (bad eos : Bool) : (s.driveNoReading bad eos).rxLen = s.rxLen := rfl
@[simp] theorem State.driveNoReading_frame (s : State) (bad eos : Bool) : (s.driveNoReading bad eos).frame = s.frame := rfl
@[simp] theorem State.driveNoReading_cmdSel (s : State) (bad eos : Bool) : (s.driveNoReading bad eos).cmdSel = s.cmdSel := rfl
@[simp] theorem State.driveNoReading_outRegPresent (s : State) (bad eos : Bool) : (s.driveNoReading bad eos).outRegPresent = s.outRegPresent := rfl
@[simp] theorem State.driveNoReading_rst (s : State) (bad eos : Bool) : (s.driveNoReading bad eos).rst = s.rst := rfl
@[simp] theorem State.driveNoReading_out (s : State) (bad eos : Bool) : (s.driveNoReading bad eos).out = Outputs.unspecified bad eos s.freeDraws := rfl
@[simp] theorem State.driveNoReading_txData (s : State) (bad eos : Bool) : (s.driveNoReading bad eos).txData = s.txData := rfl
@[simp] theorem State.driveNoReading_outReg (s : State) (bad eos : Bool) : (s.driveNoReading bad eos).outReg = s.outReg := rfl
@[simp] theorem State.driveNoReading_decfp24 (s : State) (bad eos : Bool) : (s.driveNoReading bad eos).decfp24 = s.decfp24 := rfl
@[simp] theorem State.driveNoReading_flagx (s : State) (bad eos : Bool) : (s.driveNoReading bad eos).flagx = s.flagx := rfl
@[simp] theorem State.driveNoReading_primaryUnit (s : State) (bad eos : Bool) : (s.driveNoReading bad eos).primaryUnit = s.primaryUnit := rfl
@[simp] theorem State.driveNoReading_secondaryUnit (s : State) (bad eos : Bool) : (s.driveNoReading bad eos).secondaryUnit = s.secondaryUnit := rfl
@[simp] theorem State.driveNoReading_rendered (s : State) (bad eos : Bool) : (s.driveNoReading bad eos).rendered = s.rendered := rfl
@[simp] theorem State.driveNoReading_pending (s : State) (bad eos : Bool) : (s.driveNoReading bad eos).pending = s.pending := rfl
@[simp] theorem State.driveNoReading_received (s : State) (bad eos : Bool) : (s.driveNoReading bad eos).received = s.received := rfl
@[simp] theorem State.driveNoReading_answers (s : State) (bad eos : Bool) : (s.driveNoReading bad eos).answers = s.answers := rfl
@[simp] theorem State.driveNoReading_history (s : State) (bad eos : Bool) : (s.driveNoReading bad eos).history = s.history := rfl
@[simp] theorem State.driveNoReading_collected (s : State) (bad eos : Bool) : (s.driveNoReading bad eos).collected = s.collected := rfl
@[simp] theorem State.driveNoReading_freeDraws (s : State) (bad eos : Bool) : (s.driveNoReading bad eos).freeDraws = s.freeDraws + 1 := rfl

/-! ### latchOutReg -/

@[simp] theorem State.latchOutReg_rxTimeout (s : State) : (s.latchOutReg).rxTimeout = s.rxTimeout := rfl
@[simp] theorem State.latchOutReg_rxLen (s : State) : (s.latchOutReg).rxLen = s.rxLen := rfl
@[simp] theorem State.latchOutReg_frame (s : State) : (s.latchOutReg).frame = s.frame := rfl
@[simp] theorem State.latchOutReg_cmdSel (s : State) : (s.latchOutReg).cmdSel = s.cmdSel := rfl
@[simp] theorem State.latchOutReg_outRegPresent (s : State) : (s.latchOutReg).outRegPresent = s.outRegPresent := rfl
@[simp] theorem State.latchOutReg_rst (s : State) : (s.latchOutReg).rst = false := rfl
@[simp] theorem State.latchOutReg_out (s : State) : (s.latchOutReg).out = s.out := rfl
@[simp] theorem State.latchOutReg_txData (s : State) : (s.latchOutReg).txData = s.txData := rfl
@[simp] theorem State.latchOutReg_outReg (s : State) : (s.latchOutReg).outReg = s.out := rfl
@[simp] theorem State.latchOutReg_decfp24 (s : State) : (s.latchOutReg).decfp24 = s.decfp24 := rfl
@[simp] theorem State.latchOutReg_flagx (s : State) : (s.latchOutReg).flagx = s.flagx := rfl
@[simp] theorem State.latchOutReg_primaryUnit (s : State) : (s.latchOutReg).primaryUnit = s.primaryUnit := rfl
@[simp] theorem State.latchOutReg_secondaryUnit (s : State) : (s.latchOutReg).secondaryUnit = s.secondaryUnit := rfl
@[simp] theorem State.latchOutReg_rendered (s : State) : (s.latchOutReg).rendered = s.rendered := rfl
@[simp] theorem State.latchOutReg_pending (s : State) : (s.latchOutReg).pending = s.pending := rfl
@[simp] theorem State.latchOutReg_received (s : State) : (s.latchOutReg).received = s.received := rfl
@[simp] theorem State.latchOutReg_answers (s : State) : (s.latchOutReg).answers = s.answers := rfl
@[simp] theorem State.latchOutReg_history (s : State) : (s.latchOutReg).history = s.history := rfl
@[simp] theorem State.latchOutReg_collected (s : State) : (s.latchOutReg).collected = s.collected := rfl
@[simp] theorem State.latchOutReg_freeDraws (s : State) : (s.latchOutReg).freeDraws = s.freeDraws := rfl

/-! ### resetOutReg -/

@[simp] theorem State.resetOutReg_rxTimeout (s : State) : (s.resetOutReg).rxTimeout = s.rxTimeout := rfl
@[simp] theorem State.resetOutReg_rxLen (s : State) : (s.resetOutReg).rxLen = s.rxLen := rfl
@[simp] theorem State.resetOutReg_frame (s : State) : (s.resetOutReg).frame = s.frame := rfl
@[simp] theorem State.resetOutReg_cmdSel (s : State) : (s.resetOutReg).cmdSel = s.cmdSel := rfl
@[simp] theorem State.resetOutReg_outRegPresent (s : State) : (s.resetOutReg).outRegPresent = s.outRegPresent := rfl
@[simp] theorem State.resetOutReg_rst (s : State) : (s.resetOutReg).rst = true := rfl
@[simp] theorem State.resetOutReg_out (s : State) : (s.resetOutReg).out = s.out := rfl
@[simp] theorem State.resetOutReg_txData (s : State) : (s.resetOutReg).txData = s.txData := rfl
@[simp] theorem State.resetOutReg_outReg (s : State) : (s.resetOutReg).outReg = Outputs.unspecified false false s.freeDraws := rfl
@[simp] theorem State.resetOutReg_decfp24 (s : State) : (s.resetOutReg).decfp24 = s.decfp24 := rfl
@[simp] theorem State.resetOutReg_flagx (s : State) : (s.resetOutReg).flagx = s.flagx := rfl
@[simp] theorem State.resetOutReg_primaryUnit (s : State) : (s.resetOutReg).primaryUnit = s.primaryUnit := rfl
@[simp] theorem State.resetOutReg_secondaryUnit (s : State) : (s.resetOutReg).secondaryUnit = s.secondaryUnit := rfl
@[simp] theorem State.resetOutReg_rendered (s : State) : (s.resetOutReg).rendered = s.rendered := rfl
@[simp] theorem State.resetOutReg_pending (s : State) : (s.resetOutReg).pending = s.pending := rfl
@[simp] theorem State.resetOutReg_received (s : State) : (s.resetOutReg).received = s.received := rfl
@[simp] theorem State.resetOutReg_answers (s : State) : (s.resetOutReg).answers = s.answers := rfl
@[simp] theorem State.resetOutReg_history (s : State) : (s.resetOutReg).history = s.history := rfl
@[simp] theorem State.resetOutReg_collected (s : State) : (s.resetOutReg).collected = s.collected := rfl
@[simp] theorem State.resetOutReg_freeDraws (s : State) : (s.resetOutReg).freeDraws = s.freeDraws + 1 := rfl

/-! ### driveDecfp24 -/

@[simp] theorem State.driveDecfp24_rxTimeout (s : State) (b0 b1 b2 : Byte) : (s.driveDecfp24 b0 b1 b2).rxTimeout = s.rxTimeout := rfl
@[simp] theorem State.driveDecfp24_rxLen (s : State) (b0 b1 b2 : Byte) : (s.driveDecfp24 b0 b1 b2).rxLen = s.rxLen := rfl
@[simp] theorem State.driveDecfp24_frame (s : State) (b0 b1 b2 : Byte) : (s.driveDecfp24 b0 b1 b2).frame = s.frame := rfl
@[simp] theorem State.driveDecfp24_cmdSel (s : State) (b0 b1 b2 : Byte) : (s.driveDecfp24 b0 b1 b2).cmdSel = s.cmdSel := rfl
@[simp] theorem State.driveDecfp24_outRegPresent (s : State) (b0 b1 b2 : Byte) : (s.driveDecfp24 b0 b1 b2).outRegPresent = s.outRegPresent := rfl
@[simp] theorem State.driveDecfp24_rst (s : State) (b0 b1 b2 : Byte) : (s.driveDecfp24 b0 b1 b2).rst = s.rst := rfl
@[simp] theorem State.driveDecfp24_out (s : State) (b0 b1 b2 : Byte) : (s.driveDecfp24 b0 b1 b2).out = s.out := rfl
@[simp] theorem State.driveDecfp24_txData (s : State) (b0 b1 b2 : Byte) : (s.driveDecfp24 b0 b1 b2).txData = s.txData := rfl
@[simp] theorem State.driveDecfp24_outReg (s : State) (b0 b1 b2 : Byte) : (s.driveDecfp24 b0 b1 b2).outReg = s.outReg := rfl
@[simp] theorem State.driveDecfp24_decfp24 (s : State) (b0 b1 b2 : Byte) : (s.driveDecfp24 b0 b1 b2).decfp24 = { t := BitVec.ofNat 24 (natOfBytes [b0, b1, b2]), mant := mantBits (decodeValue24 b0 b1 b2), exp := expBits (decodeValue24 b0 b1 b2) } := rfl
@[simp] theorem State.driveDecfp24_flagx (s : State) (b0 b1 b2 : Byte) : (s.driveDecfp24 b0 b1 b2).flagx = s.flagx := rfl
@[simp] theorem State.driveDecfp24_primaryUnit (s : State) (b0 b1 b2 : Byte) : (s.driveDecfp24 b0 b1 b2).primaryUnit = s.primaryUnit := rfl
@[simp] theorem State.driveDecfp24_secondaryUnit (s : State) (b0 b1 b2 : Byte) : (s.driveDecfp24 b0 b1 b2).secondaryUnit = s.secondaryUnit := rfl
@[simp] theorem State.driveDecfp24_rendered (s : State) (b0 b1 b2 : Byte) : (s.driveDecfp24 b0 b1 b2).rendered = s.rendered := rfl
@[simp] theorem State.driveDecfp24_pending (s : State) (b0 b1 b2 : Byte) : (s.driveDecfp24 b0 b1 b2).pending = s.pending := rfl
@[simp] theorem State.driveDecfp24_received (s : State) (b0 b1 b2 : Byte) : (s.driveDecfp24 b0 b1 b2).received = s.received := rfl
@[simp] theorem State.driveDecfp24_answers (s : State) (b0 b1 b2 : Byte) : (s.driveDecfp24 b0 b1 b2).answers = s.answers := rfl
@[simp] theorem State.driveDecfp24_history (s : State) (b0 b1 b2 : Byte) : (s.driveDecfp24 b0 b1 b2).history = s.history := rfl
@[simp] theorem State.driveDecfp24_collected (s : State) (b0 b1 b2 : Byte) : (s.driveDecfp24 b0 b1 b2).collected = s.collected := rfl
@[simp] theorem State.driveDecfp24_freeDraws (s : State) (b0 b1 b2 : Byte) : (s.driveDecfp24 b0 b1 b2).freeDraws = s.freeDraws := rfl

/-! ### driveFlagx -/

@[simp] theorem State.driveFlagx_rxTimeout (s : State) (b c : Byte) : (s.driveFlagx b c).rxTimeout = s.rxTimeout := rfl
@[simp] theorem State.driveFlagx_rxLen (s : State) (b c : Byte) : (s.driveFlagx b c).rxLen = s.rxLen := rfl
@[simp] theorem State.driveFlagx_frame (s : State) (b c : Byte) : (s.driveFlagx b c).frame = s.frame := rfl
@[simp] theorem State.driveFlagx_cmdSel (s : State) (b c : Byte) : (s.driveFlagx b c).cmdSel = s.cmdSel := rfl
@[simp] theorem State.driveFlagx_outRegPresent (s : State) (b c : Byte) : (s.driveFlagx b c).outRegPresent = s.outRegPresent := rfl
@[simp] theorem State.driveFlagx_rst (s : State) (b c : Byte) : (s.driveFlagx b c).rst = s.rst := rfl
@[simp] theorem State.driveFlagx_out (s : State) (b c : Byte) : (s.driveFlagx b c).out = s.out := rfl
@[simp] theorem State.driveFlagx_txData (s : State) (b c : Byte) : (s.driveFlagx b c).txData = s.txData := rfl
@[simp] theorem State.driveFlagx_outReg (s : State) (b c : Byte) : (s.driveFlagx b c).outReg = s.outReg := rfl
@[simp] theorem State.driveFlagx_decfp24 (s : State) (b c : Byte) : (s.driveFlagx b c).decfp24 = s.decfp24 := rfl
@[simp] theorem State.driveFlagx_flagx (s : State) (b c : Byte) : (s.driveFlagx b c).flagx = { b := b, c := c, settings := packSettings (extractFlags b c) } := rfl
@[simp] theorem State.driveFlagx_primaryUnit (s : State) (b c : Byte) : (s.driveFlagx b c).primaryUnit = s.primaryUnit := rfl
@[simp] theorem State.driveFlagx_secondaryUnit (s : State) (b c : Byte) : (s.driveFlagx b c).secondaryUnit = s.secondaryUnit := rfl
@[simp] theorem State.driveFlagx_rendered (s : State) (b c : Byte) : (s.driveFlagx b c).rendered = s.rendered := rfl
@[simp] theorem State.driveFlagx_pending (s : State) (b c : Byte) : (s.driveFlagx b c).pending = s.pending := rfl
@[simp] theorem State.driveFlagx_received (s : State) (b c : Byte) : (s.driveFlagx b c).received = s.received := rfl
@[simp] theorem State.driveFlagx_answers (s : State) (b c : Byte) : (s.driveFlagx b c).answers = s.answers := rfl
@[simp] theorem State.driveFlagx_history (s : State) (b c : Byte) : (s.driveFlagx b c).history = s.history := rfl
@[simp] theorem State.driveFlagx_collected (s : State) (b c : Byte) : (s.driveFlagx b c).collected = s.collected := rfl
@[simp] theorem State.driveFlagx_freeDraws (s : State) (b c : Byte) : (s.driveFlagx b c).freeDraws = s.freeDraws := rfl

/-! ### setPrimaryUnit -/

@[simp] theorem State.setPrimaryUnit_rxTimeout (s : State) (x : Text) : (s.setPrimaryUnit x).rxTimeout = s.rxTimeout := rfl
@[simp] theorem State.setPrimaryUnit_rxLen (s : State) (x : Text) : (s.setPrimaryUnit x).rxLen = s.rxLen := rfl
@[simp] theorem State.setPrimaryUnit_frame (s : State) (x : Text) : (s.setPrimaryUnit x).frame = s.frame := rfl
@[simp] theorem State.setPrimaryUnit_cmdSel (s : State) (x : Text) : (s.setPrimaryUnit x).cmdSel = s.cmdSel := rfl
@[simp] theorem State.setPrimaryUnit_outRegPresent (s : State) (x : Text) : (s.setPrimaryUnit x).outRegPresent = s.outRegPresent := rfl
@[simp] theorem State.setPrimaryUnit_rst (s : State) (x : Text) : (s.setPrimaryUnit x).rst = s.rst := rfl
@[simp] theorem State.setPrimaryUnit_out (s : State) (x : Text) : (s.setPrimaryUnit x).out = s.out := rfl
@[simp] theorem State.setPrimaryUnit_txData (s : State) (x : Text) : (s.setPrimaryUnit x).txData = s.txData := rfl
@[simp] theorem State.setPrimaryUnit_outReg (s : State) (x : Text) : (s.setPrimaryUnit x).outReg = s.outReg := rfl
@[simp] theorem State.setPrimaryUnit_decfp24 (s : State) (x : Text) : (s.setPrimaryUnit x).decfp24 = s.decfp24 := rfl
@[simp] theorem State.setPrimaryUnit_flagx (s : State) (x : Text) : (s.setPrimaryUnit x).flagx = s.flagx := rfl
@[simp] theorem State.setPrimaryUnit_primaryUnit (s : State) (x : Text) : (s.setPrimaryUnit x).primaryUnit = x := rfl
@[simp] theorem State.setPrimaryUnit_secondaryUnit (s : State) (x : Text) : (s.setPrimaryUnit x).secondaryUnit = s.secondaryUnit := rfl
@[simp] theorem State.setPrimaryUnit_rendered (s : State) (x : Text) : (s.setPrimaryUnit x).rendered = s.rendered := rfl
@[simp] theorem State.setPrimaryUnit_pending (s : State) (x : Text) : (s.setPrimaryUnit x).pending = s.pending := rfl
@[simp] theorem State.setPrimaryUnit_received (s : State) (x : Text) : (s.setPrimaryUnit x).received = s.received := rfl
@[simp] theorem State.setPrimaryUnit_answers (s : State) (x : Text) : (s.setPrimaryUnit x).answers = s.answers := rfl
@[simp] theorem State.setPrimaryUnit_history (s : State) (x : Text) : (s.setPrimaryUnit x).history = s.history := rfl
@[simp] theorem State.setPrimaryUnit_collected (s : State) (x : Text) : (s.setPrimaryUnit x).collected = s.collected := rfl
@[simp] theorem State.setPrimaryUnit_freeDraws (s : State) (x : Text) : (s.setPrimaryUnit x).freeDraws = s.freeDraws := rfl

/-! ### setSecondaryUnit -/

@[simp] theorem State.setSecondaryUnit_rxTimeout (s : State) (x : Text) : (s.setSecondaryUnit x).rxTimeout = s.rxTimeout := rfl
@[simp] theorem State.setSecondaryUnit_rxLen (s : State) (x : Text) : (s.setSecondaryUnit x).rxLen = s.rxLen := rfl
@[simp] theorem State.setSecondaryUnit_frame (s : State) (x : Text) : (s.setSecondaryUnit x).frame = s.frame := rfl
@[simp] theorem State.setSecondaryUnit_cmdSel (s : State) (x : Text) : (s.setSecondaryUnit x).cmdSel = s.cmdSel := rfl
@[simp] theorem State.setSecondaryUnit_outRegPresent (s : State) (x : Text) : (s.setSecondaryUnit x).outRegPresent = s.outRegPresent := rfl
@[simp] theorem State.setSecondaryUnit_rst (s : State) (x : Text) : (s.setSecondaryUnit x).rst = s.rst := rfl
@[simp] theorem State.setSecondaryUnit_out (s : State) (x : Text) : (s.setSecondaryUnit x).out = s.out := rfl
@[simp] theorem State.setSecondaryUnit_txData (s : State) (x : Text) : (s.setSecondaryUnit x).txData = s.txData := rfl
@[simp] theorem State.setSecondaryUnit_outReg (s : State) (x : Text) : (s.setSecondaryUnit x).outReg = s.outReg := rfl
@[simp] theorem State.setSecondaryUnit_decfp24 (s : State) (x : Text) : (s.setSecondaryUnit x).decfp24 = s.decfp24 := rfl
@[simp] theorem State.setSecondaryUnit_flagx (s : State) (x : Text) : (s.setSecondaryUnit x).flagx = s.flagx := rfl
@[simp] theorem State.setSecondaryUnit_primaryUnit (s : State) (x : Text) : (s.setSecondaryUnit x).primaryUnit = s.primaryUnit := rfl
@[simp] theorem State.setSecondaryUnit_secondaryUnit (s : State) (x : Text) : (s.setSecondaryUnit x).secondaryUnit = x := rfl
@[simp] theorem State.setSecondaryUnit_rendered (s : State) (x : Text) : (s.setSecondaryUnit x).rendered = s.rendered := rfl
@[simp] theorem State.setSecondaryUnit_pending (s : State) (x : Text) : (s.setSecondaryUnit x).pending = s.pending := rfl
@[simp] theorem State.setSecondaryUnit_received (s : State) (x : Text) : (s.setSecondaryUnit x).received = s.received := rfl
@[simp] theorem State.setSecondaryUnit_answers (s : State) (x : Text) : (s.setSecondaryUnit x).answers = s.answers := rfl
@[simp] theorem State.setSecondaryUnit_history (s : State) (x : Text) : (s.setSecondaryUnit x).history = s.history := rfl
@[simp] theorem State.setSecondaryUnit_collected (s : State) (x : Text) : (s.setSecondaryUnit x).collected = s.collected := rfl
@[simp] theorem State.setSecondaryUnit_freeDraws (s : State) (x : Text) : (s.setSecondaryUnit x).freeDraws = s.freeDraws := rfl

/-! ### setRendered -/

@[simp] theorem State.setRendered_rxTimeout (s : State) (x : Text) : (s.setRendered x).rxTimeout = s.rxTimeout := rfl
@[simp] theorem State.setRendered_rxLen (s : State) (x : Text) : (s.setRendered x).rxLen = s.rxLen := rfl
@[simp] theorem State.setRendered_frame (s : State) (x : Text) : (s.setRendered x).frame = s.frame := rfl
@[simp] theorem State.setRendered_cmdSel (s : State) (x : Text) : (s.setRendered x).cmdSel = s.cmdSel := rfl
@[simp] theorem State.setRendered_outRegPresent (s : State) (x : Text) : (s.setRendered x).outRegPresent = s.outRegPresent := rfl
@[simp] theorem State.setRendered_rst (s : State) (x : Text) : (s.setRendered x).rst = s.rst := rfl
@[simp] theorem State.setRendered_out (s : State) (x : Text) : (s.setRendered x).out = s.out := rfl
@[simp] theorem State.setRendered_txData (s : State) (x : Text) : (s.setRendered x).txData = s.txData := rfl
@[simp] theorem State.setRendered_outReg (s : State) (x : Text) : (s.setRendered x).outReg = s.outReg := rfl
@[simp] theorem State.setRendered_decfp24 (s : State) (x : Text) : (s.setRendered x).decfp24 = s.decfp24 := rfl
@[simp] theorem State.setRendered_flagx (s : State) (x : Text) : (s.setRendered x).flagx = s.flagx := rfl
@[simp] theorem State.setRendered_primaryUnit (s : State) (x : Text) : (s.setRendered x).primaryUnit = s.primaryUnit := rfl
@[simp] theorem State.setRendered_secondaryUnit (s : State) (x : Text) : (s.setRendered x).secondaryUnit = s.secondaryUnit := rfl
@[simp] theorem State.setRendered_rendered (s : State) (x : Text) : (s.setRendered x).rendered = x := rfl
@[simp] theorem State.setRendered_pending (s : State) (x : Text) : (s.setRendered x).pending = s.pending := rfl
@[simp] theorem State.setRendered_received (s : State) (x : Text) : (s.setRendered x).received = s.received := rfl
@[simp] theorem State.setRendered_answers (s : State) (x : Text) : (s.setRendered x).answers = s.answers := rfl
@[simp] theorem State.setRendered_history (s : State) (x : Text) : (s.setRendered x).history = s.history := rfl
@[simp] theorem State.setRendered_collected (s : State) (x : Text) : (s.setRendered x).collected = s.collected := rfl
@[simp] theorem State.setRendered_freeDraws (s : State) (x : Text) : (s.setRendered x).freeDraws = s.freeDraws := rfl

/-! ### withPending -/

@[simp] theorem State.withPending_rxTimeout (s : State) (p : List Action) : (s.withPending p).rxTimeout = s.rxTimeout := rfl
@[simp] theorem State.withPending_rxLen (s : State) (p : List Action) : (s.withPending p).rxLen = s.rxLen := rfl
@[simp] theorem State.withPending_frame (s : State) (p : List Action) : (s.withPending p).frame = s.frame := rfl
@[simp] theorem State.withPending_cmdSel (s : State) (p : List Action) : (s.withPending p).cmdSel = s.cmdSel := rfl
@[simp] theorem State.withPending_outRegPresent (s : State) (p : List Action) : (s.withPending p).outRegPresent = s.outRegPresent := rfl
@[simp] theorem State.withPending_rst (s : State) (p : List Action) : (s.withPending p).rst = s.rst := rfl
@[simp] theorem State.withPending_out (s : State) (p : List Action) : (s.withPending p).out = s.out := rfl
@[simp] theorem State.withPending_txData (s : State) (p : List Action) : (s.withPending p).txData = s.txData := rfl
@[simp] theorem State.withPending_outReg (s : State) (p : List Action) : (s.withPending p).outReg = s.outReg := rfl
@[simp] theorem State.withPending_decfp24 (s : State) (p : List Action) : (s.withPending p).decfp24 = s.decfp24 := rfl
@[simp] theorem State.withPending_flagx (s : State) (p : List Action) : (s.withPending p).flagx = s.flagx := rfl
@[simp] theorem State.withPending_primaryUnit (s : State) (p : List Action) : (s.withPending p).primaryUnit = s.primaryUnit := rfl
@[simp] theorem State.withPending_secondaryUnit (s : State) (p : List Action) : (s.withPending p).secondaryUnit = s.secondaryUnit := rfl
@[simp] theorem State.withPending_rendered (s : State) (p : List Action) : (s.withPending p).rendered = s.rendered := rfl
@[simp] theorem State.withPending_pending (s : State) (p : List Action) : (s.withPending p).pending = p := rfl
@[simp] theorem State.withPending_received (s : State) (p : List Action) : (s.withPending p).received = s.received := rfl
@[simp] theorem State.withPending_answers (s : State) (p : List Action) : (s.withPending p).answers = s.answers := rfl
@[simp] theorem State.withPending_history (s : State) (p : List Action) : (s.withPending p).history = s.history := rfl
@[simp] theorem State.withPending_collected (s : State) (p : List Action) : (s.withPending p).collected = s.collected := rfl
@[simp] theorem State.withPending_freeDraws (s : State) (p : List Action) : (s.withPending p).freeDraws = s.freeDraws := rfl

/-! ### record -/

@[simp] theorem State.record_rxTimeout (s : State) (c : Interaction) : (s.record c).rxTimeout = s.rxTimeout := rfl
@[simp] theorem State.record_rxLen (s : State) (c : Interaction) : (s.record c).rxLen = s.rxLen := rfl
@[simp] theorem State.record_frame (s : State) (c : Interaction) : (s.record c).frame = s.frame := rfl
@[simp] theorem State.record_cmdSel (s : State) (c : Interaction) : (s.record c).cmdSel = s.cmdSel := rfl
@[simp] theorem State.record_outRegPresent (s : State) (c : Interaction) : (s.record c).outRegPresent = s.outRegPresent := rfl
@[simp] theorem State.record_rst (s : State) (c : Interaction) : (s.record c).rst = s.rst := rfl
@[simp] theorem State.record_out (s : State) (c : Interaction) : (s.record c).out = s.out := rfl
@[simp] theorem State.record_txData (s : State) (c : Interaction) : (s.record c).txData = s.txData := rfl
@[simp] theorem State.record_outReg (s : State) (c : Interaction) : (s.record c).outReg = s.outReg := rfl
@[simp] theorem State.record_decfp24 (s : State) (c : Interaction) : (s.record c).decfp24 = s.decfp24 := rfl
@[simp] theorem State.record_flagx (s : State) (c : Interaction) : (s.record c).flagx = s.flagx := rfl
@[simp] theorem State.record_primaryUnit (s : State) (c : Interaction) : (s.record c).primaryUnit = s.primaryUnit := rfl
@[simp] theorem State.record_secondaryUnit (s : State) (c : Interaction) : (s.record c).secondaryUnit = s.secondaryUnit := rfl
@[simp] theorem State.record_rendered (s : State) (c : Interaction) : (s.record c).rendered = s.rendered := rfl
@[simp] theorem State.record_pending (s : State) (c : Interaction) : (s.record c).pending = s.pending := rfl
@[simp] theorem State.record_received (s : State) (c : Interaction) : (s.record c).received = s.received := rfl
@[simp] theorem State.record_answers (s : State) (c : Interaction) : (s.record c).answers = s.answers := rfl
@[simp] theorem State.record_history (s : State) (c : Interaction) : (s.record c).history = s.history ++ [c] := rfl
@[simp] theorem State.record_collected (s : State) (c : Interaction) : (s.record c).collected = s.collected := rfl
@[simp] theorem State.record_freeDraws (s : State) (c : Interaction) : (s.record c).freeDraws = s.freeDraws := rfl

/-! ### sendCommand -/

@[simp] theorem State.sendCommand_rxTimeout (s : State) : (s.sendCommand).rxTimeout = s.rxTimeout := rfl
@[simp] theorem State.sendCommand_rxLen (s : State) : (s.sendCommand).rxLen = s.rxLen := rfl
@[simp] theorem State.sendCommand_frame (s : State) : (s.sendCommand).frame = s.frame := rfl
@[simp] theorem State.sendCommand_cmdSel (s : State) : (s.sendCommand).cmdSel = s.cmdSel := rfl
@[simp] theorem State.sendCommand_outRegPresent (s : State) : (s.sendCommand).outRegPresent = s.outRegPresent := rfl
@[simp] theorem State.sendCommand_rst (s : State) : (s.sendCommand).rst = s.rst := rfl
@[simp] theorem State.sendCommand_out (s : State) : (s.sendCommand).out = s.out := rfl
@[simp] theorem State.sendCommand_txData (s : State) : (s.sendCommand).txData = s.txData := rfl
@[simp] theorem State.sendCommand_outReg (s : State) : (s.sendCommand).outReg = s.outReg := rfl
@[simp] theorem State.sendCommand_decfp24 (s : State) : (s.sendCommand).decfp24 = s.decfp24 := rfl
@[simp] theorem State.sendCommand_flagx (s : State) : (s.sendCommand).flagx = s.flagx := rfl
@[simp] theorem State.sendCommand_primaryUnit (s : State) : (s.sendCommand).primaryUnit = s.primaryUnit := rfl
@[simp] theorem State.sendCommand_secondaryUnit (s : State) : (s.sendCommand).secondaryUnit = s.secondaryUnit := rfl
@[simp] theorem State.sendCommand_rendered (s : State) : (s.sendCommand).rendered = s.rendered := rfl
@[simp] theorem State.sendCommand_pending (s : State) : (s.sendCommand).pending = s.pending := rfl
@[simp] theorem State.sendCommand_received (s : State) : (s.sendCommand).received = s.received := rfl
@[simp] theorem State.sendCommand_answers (s : State) : (s.sendCommand).answers = s.answers := rfl
@[simp] theorem State.sendCommand_history (s : State) : (s.sendCommand).history = s.history ++ [.send s.txData] := rfl
@[simp] theorem State.sendCommand_collected (s : State) : (s.sendCommand).collected = s.collected := rfl
@[simp] theorem State.sendCommand_freeDraws (s : State) : (s.sendCommand).freeDraws = s.freeDraws := rfl

/-! ### receiveEvent -/

@[simp] theorem State.receiveEvent_rxTimeout (s : State) : (s.receiveEvent).rxTimeout = s.rxTimeout := rfl
@[simp] theorem State.receiveEvent_rxLen (s : State) : (s.receiveEvent).rxLen = s.rxLen := rfl
@[simp] theorem State.receiveEvent_frame (s : State) : (s.receiveEvent).frame = s.frame := rfl
@[simp] theorem State.receiveEvent_cmdSel (s : State) : (s.receiveEvent).cmdSel = s.cmdSel := rfl
@[simp] theorem State.receiveEvent_outRegPresent (s : State) : (s.receiveEvent).outRegPresent = s.outRegPresent := rfl
@[simp] theorem State.receiveEvent_rst (s : State) : (s.receiveEvent).rst = s.rst := rfl
@[simp] theorem State.receiveEvent_out (s : State) : (s.receiveEvent).out = s.out := rfl
@[simp] theorem State.receiveEvent_txData (s : State) : (s.receiveEvent).txData = s.txData := rfl
@[simp] theorem State.receiveEvent_outReg (s : State) : (s.receiveEvent).outReg = s.outReg := rfl
@[simp] theorem State.receiveEvent_decfp24 (s : State) : (s.receiveEvent).decfp24 = s.decfp24 := rfl
@[simp] theorem State.receiveEvent_flagx (s : State) : (s.receiveEvent).flagx = s.flagx := rfl
@[simp] theorem State.receiveEvent_primaryUnit (s : State) : (s.receiveEvent).primaryUnit = s.primaryUnit := rfl
@[simp] theorem State.receiveEvent_secondaryUnit (s : State) : (s.receiveEvent).secondaryUnit = s.secondaryUnit := rfl
@[simp] theorem State.receiveEvent_rendered (s : State) : (s.receiveEvent).rendered = s.rendered := rfl
@[simp] theorem State.receiveEvent_pending (s : State) : (s.receiveEvent).pending = s.pending := rfl
@[simp] theorem State.receiveEvent_received (s : State) : (s.receiveEvent).received = s.nextAnswer :: s.received := rfl
@[simp] theorem State.receiveEvent_answers (s : State) : (s.receiveEvent).answers = s.answers.tail := rfl
@[simp] theorem State.receiveEvent_history (s : State) : (s.receiveEvent).history = s.history ++ [.receive Config.rxTimeoutMs s.nextAnswer] := rfl
@[simp] theorem State.receiveEvent_collected (s : State) : (s.receiveEvent).collected = s.collected := rfl
@[simp] theorem State.receiveEvent_freeDraws (s : State) : (s.receiveEvent).freeDraws = s.freeDraws := rfl

/-! ### emptyList -/

@[simp] theorem State.emptyList_rxTimeout (s : State) : (s.emptyList).rxTimeout = s.rxTimeout := rfl
@[simp] theorem State.emptyList_rxLen (s : State) : (s.emptyList).rxLen = s.rxLen := rfl
@[simp] theorem State.emptyList_frame (s : State) : (s.emptyList).frame = s.frame := rfl
@[simp] theorem State.emptyList_cmdSel (s : State) : (s.emptyList).cmdSel = s.cmdSel := rfl
@[simp] theorem State.emptyList_outRegPresent (s : State) : (s.emptyList).outRegPresent = s.outRegPresent := rfl
@[simp] theorem State.emptyList_rst (s : State) : (s.emptyList).rst = s.rst := rfl
@[simp] theorem State.emptyList_out (s : State) : (s.emptyList).out = s.out := rfl
@[simp] theorem State.emptyList_txData (s : State) : (s.emptyList).txData = s.txData := rfl
@[simp] theorem State.emptyList_outReg (s : State) : (s.emptyList).outReg = s.outReg := rfl
@[simp] theorem State.emptyList_decfp24 (s : State) : (s.emptyList).decfp24 = s.decfp24 := rfl
@[simp] theorem State.emptyList_flagx (s : State) : (s.emptyList).flagx = s.flagx := rfl
@[simp] theorem State.emptyList_primaryUnit (s : State) : (s.emptyList).primaryUnit = s.primaryUnit := rfl
@[simp] theorem State.emptyList_secondaryUnit (s : State) : (s.emptyList).secondaryUnit = s.secondaryUnit := rfl
@[simp] theorem State.emptyList_rendered (s : State) : (s.emptyList).rendered = s.rendered := rfl
@[simp] theorem State.emptyList_pending (s : State) : (s.emptyList).pending = s.pending := rfl
@[simp] theorem State.emptyList_received (s : State) : (s.emptyList).received = s.received := rfl
@[simp] theorem State.emptyList_answers (s : State) : (s.emptyList).answers = s.answers := rfl
@[simp] theorem State.emptyList_history (s : State) : (s.emptyList).history = s.history := rfl
@[simp] theorem State.emptyList_collected (s : State) : (s.emptyList).collected = [] := rfl
@[simp] theorem State.emptyList_freeDraws (s : State) : (s.emptyList).freeDraws = s.freeDraws := rfl

/-! ### collectOutcome -/

@[simp] theorem State.collectOutcome_rxTimeout (s : State) (o : DecodeOutcome) : (s.collectOutcome o).rxTimeout = s.rxTimeout := rfl
@[simp] theorem State.collectOutcome_rxLen (s : State) (o : DecodeOutcome) : (s.collectOutcome o).rxLen = s.rxLen := rfl
@[simp] theorem State.collectOutcome_frame (s : State) (o : DecodeOutcome) : (s.collectOutcome o).frame = s.frame := rfl
@[simp] theorem State.collectOutcome_cmdSel (s : State) (o : DecodeOutcome) : (s.collectOutcome o).cmdSel = s.cmdSel := rfl
@[simp] theorem State.collectOutcome_outRegPresent (s : State) (o : DecodeOutcome) : (s.collectOutcome o).outRegPresent = s.outRegPresent := rfl
@[simp] theorem State.collectOutcome_rst (s : State) (o : DecodeOutcome) : (s.collectOutcome o).rst = s.rst := rfl
@[simp] theorem State.collectOutcome_out (s : State) (o : DecodeOutcome) : (s.collectOutcome o).out = s.out := rfl
@[simp] theorem State.collectOutcome_txData (s : State) (o : DecodeOutcome) : (s.collectOutcome o).txData = s.txData := rfl
@[simp] theorem State.collectOutcome_outReg (s : State) (o : DecodeOutcome) : (s.collectOutcome o).outReg = s.outReg := rfl
@[simp] theorem State.collectOutcome_decfp24 (s : State) (o : DecodeOutcome) : (s.collectOutcome o).decfp24 = s.decfp24 := rfl
@[simp] theorem State.collectOutcome_flagx (s : State) (o : DecodeOutcome) : (s.collectOutcome o).flagx = s.flagx := rfl
@[simp] theorem State.collectOutcome_primaryUnit (s : State) (o : DecodeOutcome) : (s.collectOutcome o).primaryUnit = s.primaryUnit := rfl
@[simp] theorem State.collectOutcome_secondaryUnit (s : State) (o : DecodeOutcome) : (s.collectOutcome o).secondaryUnit = s.secondaryUnit := rfl
@[simp] theorem State.collectOutcome_rendered (s : State) (o : DecodeOutcome) : (s.collectOutcome o).rendered = s.rendered := rfl
@[simp] theorem State.collectOutcome_pending (s : State) (o : DecodeOutcome) : (s.collectOutcome o).pending = readRound s.outRegPresent ++ s.pending := rfl
@[simp] theorem State.collectOutcome_received (s : State) (o : DecodeOutcome) : (s.collectOutcome o).received = s.received := rfl
@[simp] theorem State.collectOutcome_answers (s : State) (o : DecodeOutcome) : (s.collectOutcome o).answers = s.answers := rfl
@[simp] theorem State.collectOutcome_history (s : State) (o : DecodeOutcome) : (s.collectOutcome o).history = s.history := rfl
@[simp] theorem State.collectOutcome_collected (s : State) (o : DecodeOutcome) : (s.collectOutcome o).collected = s.collected ++ [o] := rfl
@[simp] theorem State.collectOutcome_freeDraws (s : State) (o : DecodeOutcome) : (s.collectOutcome o).freeDraws = s.freeDraws := rfl

/-! ### The updates that are one of the above -/

@[simp] theorem State.driveEvent_bytes (s : State) (bs : List Byte) : s.driveEvent (.bytes bs) = s.driveBytes bs := rfl
@[simp] theorem State.driveEvent_timeout (s : State) : s.driveEvent .timeout = s.driveTimeout := rfl
@[simp] theorem State.record_receiveNumber (s : State) (c : Interaction) (back : Nat) : (s.record c).receiveNumber back = s.receiveNumber back := rfl
@[simp] theorem State.withPending_receiveNumber (s : State) (p : List Action) (back : Nat) :
    (s.withPending p).receiveNumber back = s.receiveNumber back := rfl
@[simp] theorem State.raiseBadLength_eq (s : State) : s.raiseBadLength = s.driveNoReading true false := rfl
@[simp] theorem State.signalEndOfStream_eq (s : State) : s.signalEndOfStream = s.driveNoReading false true := rfl
@[simp] theorem State.driveOutcome_reading (s : State) (r : DecodedReading) : s.driveOutcome (.reading r) = s.driveReading r := rfl
@[simp] theorem State.driveOutcome_error (s : State) : s.driveOutcome (.error .badLength) = s.driveNoReading true false := rfl
@[simp] theorem State.driveOutcome_endOfStream (s : State) : s.driveOutcome .endOfStream = s.driveNoReading false true := rfl
theorem State.clockEdge_absent (s : State) (rst : Bool) (h : s.outRegPresent = false) : s.clockEdge rst = s := by
  simp [State.clockEdge, h]
theorem State.clockEdge_reset (s : State) (h : s.outRegPresent = true) : s.clockEdge true = s.resetOutReg := by
  simp [State.clockEdge, h]
theorem State.clockEdge_latch (s : State) (h : s.outRegPresent = true) : s.clockEdge false = s.latchOutReg := by
  simp [State.clockEdge, h]
theorem State.visibleOutputs_absent (s : State) (h : s.outRegPresent = false) : s.visibleOutputs = s.out := by
  simp [State.visibleOutputs, h]
theorem State.visibleOutputs_present (s : State) (h : s.outRegPresent = true) : s.visibleOutputs = s.outReg := by
  simp [State.visibleOutputs, h]
@[simp] theorem State.withPending_visibleOutputs (s : State) (p : List Action) : (s.withPending p).visibleOutputs = s.visibleOutputs := rfl

/-! ### The outputs' fields -/

@[simp] theorem Outputs.ofReading_ok (r : DecodedReading) : (Outputs.ofReading r).ok = true := rfl
@[simp] theorem Outputs.ofReading_errBadLength (r : DecodedReading) : (Outputs.ofReading r).errBadLength = false := rfl
@[simp] theorem Outputs.ofReading_endOfStream (r : DecodedReading) : (Outputs.ofReading r).endOfStream = false := rfl
@[simp] theorem Outputs.ofReading_priMant (r : DecodedReading) : (Outputs.ofReading r).priMant = mantBits r.primaryValue := rfl
@[simp] theorem Outputs.ofReading_priExp (r : DecodedReading) : (Outputs.ofReading r).priExp = expBits r.primaryValue := rfl
@[simp] theorem Outputs.ofReading_secMant (r : DecodedReading) : (Outputs.ofReading r).secMant = mantBits r.secondaryValue := rfl
@[simp] theorem Outputs.ofReading_secExp (r : DecodedReading) : (Outputs.ofReading r).secExp = expBits r.secondaryValue := rfl
@[simp] theorem Outputs.ofReading_settings (r : DecodedReading) : (Outputs.ofReading r).settings = packSettings r.settings := rfl
@[simp] theorem Outputs.ofReading_priFloat (r : DecodedReading) : (Outputs.ofReading r).priFloat = floatRender r.primaryValue := rfl
@[simp] theorem Outputs.ofReading_secFloat (r : DecodedReading) : (Outputs.ofReading r).secFloat = floatRender r.secondaryValue := rfl
@[simp] theorem Outputs.unspecified_ok (bad eos : Bool) (n : Nat) : (Outputs.unspecified bad eos n).ok = false := rfl
@[simp] theorem Outputs.unspecified_errBadLength (bad eos : Bool) (n : Nat) : (Outputs.unspecified bad eos n).errBadLength = bad := rfl
@[simp] theorem Outputs.unspecified_endOfStream (bad eos : Bool) (n : Nat) : (Outputs.unspecified bad eos n).endOfStream = eos := rfl

end Sys2Proof.Machine
end

