-- ==== Sys2Proof/Laws/Fields.lean ====
section
/-!
SUPPORT. The settings fields and their packed form: the masks as bits, and what packing and unpacking do.
-/

namespace Sys2Proof.Machine

open Config

/-! ### The masks of R8 as bits -/

theorem testMask_80 (v : Byte) : testMask 0x80#8 v = v.getLsbD 7 := by revert v; decide
theorem testMask_40 (v : Byte) : testMask 0x40#8 v = v.getLsbD 6 := by revert v; decide
theorem testMask_20 (v : Byte) : testMask 0x20#8 v = v.getLsbD 5 := by revert v; decide
theorem testMask_10 (v : Byte) : testMask 0x10#8 v = v.getLsbD 4 := by revert v; decide
theorem testMask_08 (v : Byte) : testMask 0x08#8 v = v.getLsbD 3 := by revert v; decide
theorem testMask_04 (v : Byte) : testMask 0x04#8 v = v.getLsbD 2 := by revert v; decide
theorem testMask_02 (v : Byte) : testMask 0x02#8 v = v.getLsbD 1 := by revert v; decide
theorem testMask_01 (v : Byte) : testMask 0x01#8 v = v.getLsbD 0 := by revert v; decide

/-! ### The packed vector, bit by bit (R25) -/

/-- Bit `i` of the vector is the `i`th code from the last. -/
theorem getLsbD_settingsVector (mode deg mph knot ftMin kmh mS max min avg twoThird populated cfm hold : Bool) (i : Nat) :
    (settingsVector mode deg mph knot ftMin kmh mS max min avg twoThird populated cfm hold).getLsbD i =
      [hold, cfm, populated, twoThird, avg, min, max, mS, kmh, ftMin, knot, mph, deg, mode].getD i false := by
  unfold settingsVector
  rcases Nat.lt_or_ge i 14 with h | h
  · rw [BitVec.getLsbD_ofBoolListBE]
    interval_cases i <;> rfl
  · rw [BitVec.getLsbD_of_ge _ _ h, List.getD_eq_default _ _ (by simpa using h)]

/-! ### The field strings -/

theorem textIf_beq (x : Bool) (t f : Text) (h : (f == t) = false) : (textIf x t f == t) = x := by
  cases x <;> simp_all [textIf]

theorem fieldMode_eq (b : Byte) : fieldMode b = textIf (b.getLsbD 7) txtVEL txtFLOW := by simp [fieldMode, textIf, testMask_80]

/-- The mode string is `"VEL"` exactly when `b[7]` is 1 (R101). -/
theorem fieldMode_beq_VEL (b : Byte) : (fieldMode b == txtVEL) = b.getLsbD 7 := by
  rw [fieldMode_eq]; exact textIf_beq _ _ _ (by decide)

end Sys2Proof.Machine
end

