-- ==== Sys2Proof/Laws/Memory.lean ====
section
/-!
SUPPORT. The frame buffer: what a read gives after a load, and that every operation keeps the canonical form.
-/

namespace Sys2Proof.Machine

open Config

theorem cellsFrom_length (a : Nat) (bs : List Byte) : (cellsFrom a bs).length = bs.length := by
  induction bs generalizing a with
  | nil => rfl
  | cons b bs ih => simp [cellsFrom, ih]

theorem loadFrame_length (bs : List Byte) : (loadFrame bs).length = Nat.min frameLen bs.length := by
  simp [loadFrame, cellsFrom_length, Nat.min_def]

/-- A read of the cells from `a` on: the byte that many places along, none below `a` or past the end. -/
theorem readByte_cellsFrom (a i : Nat) (bs : List Byte) :
    readByte (cellsFrom a bs) i = if a ≤ i then bs[i - a]? else none := by
  induction bs generalizing a with
  | nil => simp [cellsFrom, readByte]
  | cons b bs ih =>
    have step : readByte (cellsFrom a (b :: bs)) i = if i = a then some b else readByte (cellsFrom (a + 1) bs) i := by
      simp only [readByte, cellsFrom, List.lookup_cons, beq_eq_decide]
      by_cases h : i = a <;> simp [h]
    rw [step, ih]
    obtain h | ⟨k, rfl⟩ : i < a ∨ ∃ k, i = a + k := (Nat.lt_or_ge i a).imp_right Nat.exists_eq_add_of_le
    · rw [if_neg (by omega), if_neg (by omega), if_neg (by omega)]
    · cases k with
      | zero => simp
      | succ k => simp [show a + (k + 1) - (a + 1) = k by omega]

/-- Index `i` of the buffer reads as `frame[i]`, the `i`th element delivered, for the first 8 (R29, R39). -/
theorem readByte_loadFrame (bs : List Byte) (i : Nat) : readByte (loadFrame bs) i = (bs.take frameLen)[i]? := by
  simp [loadFrame, readByte_cellsFrom]

theorem mapM_eq_some_map {α β : Type} {f : α → Option β} {g : α → β} {l : List α} (h : ∀ x ∈ l, f x = some (g x)) :
    l.mapM f = some (l.map g) := by
  induction l with
  | nil => rfl
  | cons x l ih => simp [List.mapM_cons, h x, ih fun y hy => h y (List.mem_cons_of_mem x hy)]

/-- Reads of a loaded frame inside it: its bytes by index, in order (R10). -/
theorem readBytes_loadFrame (bs : List Byte) (i n : Nat) (hlen : bs.length = frameLen) (h : i + n ≤ frameLen) :
    readBytes (loadFrame bs) i n = some ((List.range' i n).map fun k => bs.getD k 0#8) := by
  refine mapM_eq_some_map fun k hk => ?_
  have hk' : k < bs.length := by have := List.mem_range'_1.mp hk; omega
  rw [readByte_loadFrame, List.take_of_length_le (by omega), List.getD_eq_getElem _ _ hk', List.getElem?_eq_getElem hk']

/-- `MemRead` of a delivered frame in its domain (R10). -/
theorem State.memRead_driveBytes (s : State) (bs : List Byte) (i n : Nat) (hlen : bs.length = frameLen) (h : i + n ≤ frameLen) :
    (s.driveBytes bs).memRead i n = some ((List.range' i n).map fun k => bs.getD k 0#8) := by
  simp [State.memRead, hlen, h, readBytes_loadFrame]

/-- `MemRead` answers only inside its domain (R10). -/
theorem State.memRead_eq_some {s : State} {i n : Nat} {bs : List Byte} (h : s.memRead i n = some bs) :
    s.rxTimeout = false ∧ s.rxLen = frameLen ∧ i + n ≤ frameLen ∧ readBytes s.frame i n = some bs := by
  simp only [State.memRead] at h
  split at h
  next hc => exact ⟨hc.1, hc.2.1, hc.2.2, h⟩
  next => cases h

theorem cellsFrom_wf (a : Nat) (bs : List Byte) (h : a + bs.length ≤ frameLen) : Memory.wf (cellsFrom a bs) = true := by
  induction bs generalizing a with
  | nil => rfl
  | cons b bs ih =>
    have hl : (b :: bs).length = bs.length + 1 := rfl
    cases bs with
    | nil => simp only [cellsFrom, Memory.wf, decide_eq_true_eq]; simp at h; omega
    | cons c cs =>
      have hr := ih (a + 1) (by omega)
      simp only [cellsFrom] at hr ⊢
      simp [Memory.wf, hr]

/-- The load gives the canonical form. -/
theorem loadFrame_wf (bs : List Byte) : Memory.wf (loadFrame bs) = true :=
  cellsFrom_wf 0 _ (by simp)

/-- Every operation that changes the buffer gives the canonical form; the others leave the buffer alone (Laws/State.lean). -/
theorem State.driveEvent_frame_wf (s : State) (ev : RxEvent) : Memory.wf (s.driveEvent ev).frame = true := by
  cases ev with
  | bytes bs => simpa using loadFrame_wf bs
  | timeout => rfl

theorem State.reset_frame_wf : Memory.wf State.reset.frame = true := rfl

end Sys2Proof.Machine
end

