-- ==== Sys2Proof/Laws/Run.lean ====
section
/-!
SUPPORT. What an evaluation, a request and an action can do: one lemma each, to be cited instead of unfolding them.
-/

namespace Sys2Proof.Machine

open Config

/-- The four reads of R130 on a delivered frame. -/
theorem State.decodeFrameBuffer_driveBytes (s : State) (frame : List Byte) (hlen : frame.length = frameLen) :
    (s.driveBytes frame).decodeFrameBuffer = .ok (readingOfFrame frame) := by
  have read := fun i n => s.memRead_driveBytes frame i n hlen
  simp only [State.decodeFrameBuffer, read 0 1 (by decide), read 1 1 (by decide), read priOff tripletLen (by decide),
    read secOff tripletLen (by decide)]
  rfl

theorem State.evaluate_driveTimeout (s : State) : s.driveTimeout.evaluate = .ok .endOfStream := rfl

/-- An evaluation of delivered bytes: the length first, then the decode (R131). -/
theorem State.evaluate_driveBytes (s : State) (bs : List Byte) : (s.driveBytes bs).evaluate = .ok (outcomeOf (.bytes bs)) := by
  by_cases h : bs.length = frameLen
  · simp [State.evaluate, outcomeOf, h, State.decodeFrameBuffer_driveBytes, Except.map]
  · simp [State.evaluate, outcomeOf, h]

/-- Everything an evaluation of an event can do: it answers, with the outcome the event determines (R130, R133, R175). -/
theorem State.evaluate_driveEvent (s : State) (ev : RxEvent) : (s.driveEvent ev).evaluate = .ok (outcomeOf ev) := by
  cases ev with
  | timeout => exact State.evaluate_driveTimeout _
  | bytes bs => exact State.evaluate_driveBytes _ bs

/-- Everything `DECODE_FRAME` can do. -/
theorem execDecodeFrame_eq (ev : RxEvent) (s : State) :
    execDecodeFrame ev s = .next ((s.driveEvent ev).driveOutcome (outcomeOf ev)) := by
  simp only [execDecodeFrame, State.evaluate_driveEvent]

/-- Everything a request can do that ends in a next state. -/
theorem runRequest_next {r : Request} {s t : State} (h : runRequest r s = .next t) : ∃ i, decode r = .ok i ∧ exec i s = .next t := by
  unfold runRequest at h
  split at h
  next i hi => exact ⟨i, hi, h⟩
  next => cases h

/-- A receive event's request runs `DECODE_FRAME` on it. -/
theorem runRequest_requestOfEvent (ev : RxEvent) (s : State) : runRequest (requestOfEvent ev) s = exec (.decodeFrame ev) s := by
  cases ev <;> rfl

/-- Everything a host function on the present reading can do that ends in a next state. -/
theorem onReading_next {f : Iface} {s t : State} (h : onReading f s = .next t) :
    s.visibleOutputs.ok = true ∧
      ∃ i, decode { iface := f, bytes := settingsBytes s.visibleOutputs.settings } = .ok i ∧ exec i s = .next t := by
  unfold onReading at h
  split at h
  next hok => exact ⟨hok, runRequest_next h⟩
  next => cases h

/-- The request an action invokes on operand bits or on the present reading, if it invokes one. -/
def requestOfAction (s : State) : Action → Option Request
  | .invoke r => some r
  | .primaryUnitOfReading => some { iface := .primaryUnit, bytes := settingsBytes s.visibleOutputs.settings }
  | .secondaryUnitOfReading => some { iface := .secondaryUnit, bytes := settingsBytes s.visibleOutputs.settings }
  | .renderReading w => some { iface := .render w, bytes := settingsBytes s.visibleOutputs.settings }
  | .decodeReceived _ | .send | .recv | .newList | .collect | .clockEdge _ => none

/-- What a caller action that ends in a next state has done. -/
inductive ActionEffect (s t : State) : Action → Prop where
  /-- It ran the operation its request denotes. -/
  | ran {a : Action} (r : Request) (i : Instr) (hreq : requestOfAction s a = some r) (hdecode : decode r = .ok i)
      (hexec : exec i s = .next t) : ActionEffect s t a
  /-- It ran `DECODE_FRAME` on an event received, and the evaluation is recorded. -/
  | decoded (back : Nat) (ev : RxEvent) (hev : s.received[back]? = some ev)
      (hexec : exec (.decodeFrame ev) (s.record (.evaluate (s.receiveNumber back) ev)) = .next t) : ActionEffect s t (.decodeReceived back)
  | sent (ht : t = s.sendCommand) : ActionEffect s t .send
  | received (ht : t = s.receiveEvent) : ActionEffect s t .recv
  | began (ht : t = s.emptyList) : ActionEffect s t .newList
  | stopped (ho : s.visibleOutputs.outcome = some .endOfStream) (ht : t = s) : ActionEffect s t .collect
  | wentRound (o : DecodeOutcome) (ho : s.visibleOutputs.outcome = some o) (hne : o ≠ .endOfStream) (ht : t = s.collectOutcome o) :
      ActionEffect s t .collect
  | clocked (rst : Bool) (ht : t = s.clockEdge rst) : ActionEffect s t (.clockEdge rst)

/-- Everything `READ_ALL`'s round can do that ends in a next state. -/
theorem runAction_collect_next {s t : State} (h : runAction .collect s = .next t) : ActionEffect s t .collect := by
  simp only [runAction] at h
  split at h
  next ho => exact .stopped ho (Host.Outcome.next.inj h).symm
  next o hne ho => exact .wentRound o ho hne (Host.Outcome.next.inj h).symm
  next => cases h

/-- Everything a caller action can do that ends in a next state. -/
theorem runAction_next {a : Action} {s t : State} (h : runAction a s = .next t) : ActionEffect s t a := by
  have ran : ∀ {r a}, requestOfAction s a = some r → runRequest r s = .next t → ActionEffect s t a := fun hreq hr =>
    have ⟨i, hdecode, hexec⟩ := runRequest_next hr
    .ran _ i hreq hdecode hexec
  have read : ∀ {f a}, requestOfAction s a = some { iface := f, bytes := settingsBytes s.visibleOutputs.settings } →
      onReading f s = .next t → ActionEffect s t a := fun hreq hr =>
    have ⟨_, i, hdecode, hexec⟩ := onReading_next hr
    .ran _ i hreq hdecode hexec
  cases a with
  | invoke r => exact ran rfl h
  | send => exact .sent (Host.Outcome.next.inj h).symm
  | recv => exact .received (Host.Outcome.next.inj h).symm
  | decodeReceived back =>
    cases hr : s.received[back]? with
    | none => simp [runAction, hr] at h
    | some ev => exact .decoded back ev hr (by simpa only [runAction, hr, runRequest_requestOfEvent] using h)
  | primaryUnitOfReading => exact read rfl h
  | secondaryUnitOfReading => exact read rfl h
  | renderReading w => exact read rfl h
  | newList => exact .began (Host.Outcome.next.inj h).symm
  | collect => exact runAction_collect_next h
  | clockEdge rst => exact .clocked rst (Host.Outcome.next.inj h).symm

/-- Everything a step can do that ends in a next state. -/
theorem step_next {s t : State} (h : step s = .next t) :
    (s.pending = [] ∧ t = s) ∨ ∃ a rest, s.pending = a :: rest ∧ ActionEffect (s.withPending rest) t a := by
  cases hp : s.pending with
  | nil => exact .inl ⟨rfl, by simp only [step, runPending, hp] at h; exact (Host.Outcome.next.inj h).symm⟩
  | cons a rest => exact .inr ⟨a, rest, rfl, runAction_next (by simpa only [step, runPending, hp] using h)⟩

/-! ### The caller's phase -/

theorem State.callerPhase_of_history {s t : State} (h : t.history = s.history) : t.callerPhase = s.callerPhase := by
  simp only [State.callerPhase, h]

/-- One more interaction moves the phase on by itself. -/
theorem State.callerPhase_of_history_snoc {s t : State} {c : Interaction} (h : t.history = s.history ++ [c]) :
    t.callerPhase = s.callerPhase.bind (·.after c) := by
  simp [State.callerPhase, h, List.foldlM_append]

/-- An evaluation moves an event of a stream from owed to passed, or changes nothing: the stream's events stay. -/
@[simp] theorem StreamPhase.afterEvaluate_events (st : StreamPhase) (receive : Nat) (ev : RxEvent) :
    (st.afterEvaluate receive ev).events = st.events := by
  unfold StreamPhase.afterEvaluate
  split
  · rfl
  next oldest later ho =>
    split
    next h => subst h; simp [StreamPhase.events, ho]
    · rfl

/-- A receive adds its event to a running stream. -/
theorem StreamPhase.afterReceive_events (st : StreamPhase) (receive : Nat) (answer : RxEvent) :
    (st.afterReceive receive answer).events = if st.running then st.events ++ [receive] else st.events := by
  unfold StreamPhase.afterReceive
  split <;> simp [StreamPhase.events]

/-- Only an event of the stream is forbidden. -/
theorem StreamPhase.mem_events_of_forbids {st : StreamPhase} {receive : Nat} (h : st.forbids receive = true) : receive ∈ st.events := by
  simp only [StreamPhase.forbids, Bool.or_eq_true, List.contains_iff_mem] at h
  exact List.mem_append.mpr (h.imp_right List.mem_of_mem_tail)

/-- An evaluation of an event of no stream changes nothing. -/
theorem StreamPhase.afterEvaluate_of_notMem {st : StreamPhase} {receive : Nat} (ev : RxEvent) (h : receive ∉ st.events) :
    st.afterEvaluate receive ev = st := by
  unfold StreamPhase.afterEvaluate
  split
  · rfl
  next oldest later ho =>
    refine if_neg fun he => h ?_
    simp [StreamPhase.events, ho, he]

/-- Everything an evaluation that breaks no duty does. -/
theorem CallerPhase.afterEvaluate_eq_some {p q : CallerPhase} {receive : Nat} {ev : RxEvent} (h : p.afterEvaluate receive ev = some q) :
    (∀ st ∈ p.streams, st.forbids receive = false) ∧ q = { p with streams := p.streams.map (·.afterEvaluate receive ev) } := by
  unfold CallerPhase.afterEvaluate at h
  split at h
  · cases h
  next hf => exact ⟨by simpa using hf, (Option.some.inj h).symm⟩

/-- Where no duty is broken, a caller with something left to do keeps them. -/
theorem State.dutiesKept_of_pending_ne_nil {s : State} {p : CallerPhase} (abort : Bool) (h : s.callerPhase = some p) (hp : s.pending ≠ []) :
    s.DutiesKept abort := ⟨p, h, fun h' => absurd h' hp⟩

theorem State.not_dutiesKept_of_callerPhase_eq_none {s : State} (abort : Bool) (h : s.callerPhase = none) : ¬s.DutiesKept abort := by
  rintro ⟨p, hp, -⟩
  rw [h] at hp
  cases hp

/-- What the caller holds agrees with the history wherever neither has changed. -/
theorem State.CallerHeld.of_history {s t : State} (h : s.CallerHeld) (hh : t.history = s.history) (hr : t.received = s.received) :
    t.CallerHeld := by
  have hp := State.callerPhase_of_history hh
  exact ⟨by rw [hh, hr]; exact h.unaltered, by rw [hp, hr]; exact h.receives, by rw [hp]; exact h.received, by rw [hp]; exact h.distinct⟩

/-! ### The invariant says nothing of the caller's script -/

theorem State.OutputsFollow.withPending {s : State} (h : s.OutputsFollow) (p : List Action) : (s.withPending p).OutputsFollow :=
  ⟨h.endOfStream, h.errBadLength, h.ok, h.data⟩

theorem State.FrameHeld.withPending {s : State} (h : s.FrameHeld) (p : List Action) : (s.withPending p).FrameHeld :=
  ⟨h.wf, h.noneOnTimeout, h.length⟩

theorem State.CallerHeld.withPending {s : State} (h : s.CallerHeld) (p : List Action) : (s.withPending p).CallerHeld :=
  h.of_history rfl rfl

theorem State.Inv.withPending {s : State} (h : s.Inv) (p : List Action) : (s.withPending p).Inv :=
  ⟨h.outputs.withPending p, h.frame.withPending p, h.txData, h.decfp24, h.flagx, h.sent, h.caller.withPending p, h.collected, h.outReg⟩

end Sys2Proof.Machine
end

