-- ==== Sys2Proof/Laws/PerInstr.lean ====
section
/-!
SUPPORT. Statements made per instruction. `FormatLength`: an operation's encoding has the length its format fixes (30_encoding.md R55,
R68); only a received sequence has a length of its own.
-/

namespace Sys2Proof.Laws.FormatLength

/-- The bytes an operation's format fixes (R55, R71); none for a receive event. -/
def formatBytes : Instr → Option Nat
  | .readCurrent => some 8
  | .readRecordsStart => some 8
  | .decodeFrame _ => none
  | .decodeValue24 _ _ _ => some 3
  | .extractFlags _ _ => some 2
  | .primaryUnit _ => some 2
  | .secondaryUnit _ => some 2
  | .render _ _ => some 2

/-- The encoding has the format's length. -/
def Statement (i : Instr) : Prop := ∀ n, formatBytes i = some n → (encode i).bytes.length = n

theorem readCurrent : Statement .readCurrent := by intro n h; cases h; rfl
theorem readRecordsStart : Statement .readRecordsStart := by intro n h; cases h; rfl
theorem decodeFrame (ev : RxEvent) : Statement (.decodeFrame ev) := by intro n h; cases h
theorem decodeValue24 (b0 b1 b2 : Byte) : Statement (.decodeValue24 b0 b1 b2) := by intro n h; cases h; rfl
theorem extractFlags (b c : Byte) : Statement (.extractFlags b c) := by intro n h; cases h; rfl
theorem primaryUnit (settings : SettingsFlags) : Statement (.primaryUnit settings) := by intro n h; cases h; rfl
theorem secondaryUnit (settings : SettingsFlags) : Statement (.secondaryUnit settings) := by intro n h; cases h; rfl
theorem render (settings : SettingsFlags) (minWidth : Nat) : Statement (.render settings minWidth) := by intro n h; cases h; rfl

end Sys2Proof.Laws.FormatLength
end

