-- ==== Sys2Proof/Tests/Slice0.lean ====
section
/-!
SUPPORT. Small tests with expected results from the spec (95_test_vectors.md, by the vector's name), and for every statement with
hypotheses a concrete state and operands that meet them.
-/

namespace Sys2Proof.Tests

open Sys2Proof Sys2Proof.Machine

/-! ### Helpers -/

/-- A field of the state after an instruction from a given state; none where it answers no next state. -/
def after {α : Type} (i : Instr) (s : State) (f : State → α) : Option α :=
  match exec i s with
  | .next t => some (f t)
  | _ => none

/-- A field of the state after one step. -/
def afterStep {α : Type} (s : State) (f : State → α) : Option α :=
  match step s with
  | .next t => some (f t)
  | _ => none

/-- The frame of S7. -/
def frameS7 : List Byte := [0x91#8, 0x00#8, 0x00#8, 0x0A#8, 0x02#8, 0x00#8, 0x05#8, 0xFF#8]

/-- The flags and signals that V75 to V78 list. -/
def flagsOf (s : State) : Bool × Bool × Bool := (s.out.ok, s.out.errBadLength, s.out.endOfStream)

/-- A state with the reading of S7 on its outputs. -/
def readS7 : State :=
  (State.reset.driveBytes frameS7).driveReading (readingOf 0x91#8 0x00#8 0x00#8 0x0A#8 0x02#8 0x00#8 0x05#8 0xFF#8)

/-- A state in which a timeout was evaluated. -/
def timedOut : State := State.reset.driveTimeout.driveNoReading false true

/-- The same with `OUT_REG = 1`: the caller sees the register, which does not show the reading yet. -/
def readS7Registered : State := { readS7 with outRegPresent := true }

/-- 7 bytes: a bad frame. -/
def badFrame : RxEvent := .bytes (frameS7.take 7)

/-- A stream is running, and nothing of it has been received. -/
def streaming : State := (State.reset.selectCommand true).sendCommand

/-- Two events of a stream have been received ahead, a bad frame and S7, and neither is evaluated yet. -/
def owing : State := ({ streaming with answers := [badFrame, .bytes frameS7] } : State).receiveEvent.receiveEvent

/-- A stream whose last event was evaluated and gave `BadLength`. -/
def afterBad : State := { streaming with history := [.send 0xC400000000000000#64, .receive 5 badFrame, .evaluate 0 badFrame], received := [badFrame] }

/-- An answer to `READ_CURRENT` held unevaluated while a stream runs, of which two events have been received ahead (events 1 and 2). -/
def lateAnswer : State :=
  ({ State.reset with
      history := [.send 0xB300000000000000#64, .receive 5 (.bytes frameS7), .send 0xC400000000000000#64]
      received := [.bytes frameS7]
      answers := [badFrame, .bytes frameS7] } : State).receiveEvent.receiveEvent

/-- A record with a unit in FLOW mode: malformed (R154). -/
def unitInFlow : SettingsFlags := { extractFlags 0x00#8 0x00#8 with mph := "mph".toList }

/-- A record with a string outside its field's set: malformed (R154). -/
def strangeDeg : SettingsFlags := { extractFlags 0x00#8 0x00#8 with deg := "K".toList }

/-! ### WellFormed -/

theorem test_wellFormed_refuses_string_outside_set : wellFormed (.secondaryUnit strangeDeg) = false := by decide
theorem test_wellFormed_refuses_unit_in_flow : wellFormed (.primaryUnit unitInFlow) = false := by decide
theorem test_wellFormed_refuses_cmm_in_vel :
    wellFormed (.render { extractFlags 0x80#8 0x00#8 with cmmCfm := "CMM".toList } 6) = false := by decide
theorem test_wellFormed_accepts_produced : wellFormed (.primaryUnit (extractFlags 0x91#8 0x00#8)) = true := by decide

/-! ### Decode and encode: words written out from 30_encoding.md R56 to R60 and R71 -/

theorem test_decode_READ_CURRENT : decodeTableWord 64 0xB300000000000000 = some .readCurrent := by decide
theorem test_decode_READ_RECORDS_START : decodeTableWord 64 0xC400000000000000 = some .readRecordsStart := by decide
theorem test_decode_DECODE_FRAME_S7 : decodeTableWord 64 0x9100000A020005FF = some (.decodeFrame (.bytes frameS7)) := by decide
theorem test_decode_timeout : decode { iface := .rxTimeout, bytes := [] } = .ok (.decodeFrame .timeout) := by rfl
theorem test_decode_DECODE_VALUE24 :
    decodeTableWord 24 0b000100100011010011111110 = some (.decodeValue24 0x12#8 0x34#8 0xFE#8) := by decide
theorem test_decode_EXTRACT_FLAGS : decodeTableWord 16 0b1001000100000101 = some (.extractFlags 0x91#8 0x05#8) := by decide
/-- V48: VEL F mph m/s is 0b10100010000000. -/
theorem test_decode_PRIMARY_UNIT : decode { iface := .primaryUnit, bytes := [0x28#8, 0x80#8] } = .ok (.primaryUnit (extractFlags 0x91#8 0x00#8)) := by
  decide
/-- V56a: FLOW F CFM is 0b00000000000110. -/
theorem test_decode_SECONDARY_UNIT : decode { iface := .secondaryUnit, bytes := [0x00#8, 0x06#8] } = .ok (.secondaryUnit (extractFlags 0x00#8 0x08#8)) := by
  decide
/-- V59b: VEL F max min avg 2/3 hold is 0b10000001111001. -/
theorem test_decode_RENDER : decode { iface := .render 4, bytes := [0x20#8, 0x79#8] } = .ok (.render (extractFlags 0x80#8 0xFF#8) 4) := by
  decide
theorem test_decode_refuses_other_command : decode { iface := .cmd, bytes := [0xB3#8, 1#8, 0#8, 0#8, 0#8, 0#8, 0#8, 0#8] } = .error .unknownCommand := by
  decide
theorem test_decode_refuses_code_01 : decode { iface := .secondaryUnit, bytes := [0x00#8, 0x02#8] } = .error .settingsCodeNeverProduced := by rfl
theorem test_decode_refuses_bit_14 : decode { iface := .primaryUnit, bytes := [0x40#8, 0x00#8] } = .error .notASettingsVector := by rfl
theorem test_words_of_the_commands :
    wordOfFrame readCurrentFrame = 0xB300000000000000#64 ∧ wordOfFrame readRecordsStartFrame = 0xC400000000000000#64 := by decide
theorem test_first_step_runs_the_table_word :
    afterStep (State.reset.withFetchWord 64 0xC400000000000000) (fun t => (t.txData, t.pending)) = some (0xC400000000000000#64, []) := by decide
theorem test_first_step_runs_the_table_frame :
    afterStep (State.reset.withFetchWord 64 0x9100000A020005FF) (fun t => (flagsOf t, t.out.settings)) =
      some ((true, false, false), 0x2880#14) := by decide

/-! ### Meanings -/

theorem test_readCurrent : after .readCurrent (State.reset.selectCommand true) (fun t => (t.cmdSel, t.txData)) = some (false, 0xB300000000000000#64) := by
  decide
theorem test_readRecordsStart : after .readRecordsStart State.reset (fun t => (t.cmdSel, t.txData)) = some (true, 0xC400000000000000#64) := by decide
/-- V75. -/
theorem test_decodeFrame_V75 :
    after (.decodeFrame (.bytes frameS7)) State.reset
      (fun t => (flagsOf t, t.out.priMant, t.out.priExp, t.out.secMant, t.out.secExp, t.out.settings, t.rxData)) =
    some ((true, false, false), 0x000A#16, 0x02#8, 0x0005#16, 0xFF#8, 0x2880#14, some 0x9100000A020005FF#64) := by decide
/-- V73: both exponent extremes in one frame. -/
theorem test_decodeFrame_V73 :
    after (.decodeFrame (.bytes [0xDF#8, 0xFF#8, 0x12#8, 0x34#8, 0x7F#8, 0x00#8, 0x01#8, 0x80#8])) timedOut
      (fun t => (t.out.outcome.isSome, valueOfSignals t.out.priMant t.out.priExp, valueOfSignals t.out.secMant t.out.secExp, t.out.settings)) =
    some (true, { m := 4660, e := 127 }, { m := 1, e := -128 }, 0x2FF9#14) := by decide
/-- V62 and V63: 7 and 9 bytes, no partial decode and no truncation. -/
theorem test_decodeFrame_bad_length :
    after (.decodeFrame (.bytes (frameS7.take 7))) readS7 flagsOf = some (false, true, false) ∧
    after (.decodeFrame (.bytes (frameS7 ++ [0x00#8]))) readS7 flagsOf = some (false, true, false) := by decide
/-- V66. -/
theorem test_decodeFrame_timeout : after (.decodeFrame .timeout) readS7 flagsOf = some (false, false, true) := by decide
/-- V14: the high byte first. -/
theorem test_decodeValue24_V14 :
    after (.decodeValue24 0x12#8 0x34#8 0xFE#8) State.reset (fun t => (t.decfp24.t, t.decfp24.mant, t.decfp24.exp)) =
      some (0x1234FE#24, 4660#16, 0xFE#8) := by decide
/-- V5 and V6: the 127/128 boundary. -/
theorem test_decodeValue24_boundary :
    decodeValue24 0x00#8 0x01#8 0x7F#8 = { m := 1, e := 127 } ∧ decodeValue24 0x00#8 0x01#8 0x80#8 = { m := 1, e := -128 } := by decide
/-- V48 and V56a. -/
theorem test_extractFlags_vectors :
    after (.extractFlags 0x91#8 0x00#8) State.reset (fun t => t.flagx.settings) = some 0x2880#14 ∧
    after (.extractFlags 0x00#8 0x08#8) State.reset (fun t => t.flagx.settings) = some 0x0006#14 := by decide
/-- V46 and V68's record: unit bits ignored in FLOW, all of them kept in VEL. -/
theorem test_extractFlags_gate : packSettings (extractFlags 0x1F#8 0x00#8) = 0x0004#14 ∧ packSettings (extractFlags 0xFF#8 0xFF#8) = 0x3FF9#14 := by decide
/-- V94. -/
theorem test_primaryUnit_V94 :
    after (.primaryUnit (extractFlags 0x9F#8 0x00#8)) State.reset (fun t => t.primaryUnit) = some "mphknotft/minkm/hm/s".toList := by decide
/-- The pseudocode as written on a malformed record (R154). -/
theorem test_primaryUnit_malformed : after (.primaryUnit unitInFlow) State.reset (fun t => t.primaryUnit) = some "CMM".toList := by decide
/-- V93. -/
theorem test_secondaryUnit_V93 : after (.secondaryUnit (extractFlags 0xA0#8 0x00#8)) State.reset (fun t => t.secondaryUnit) = some "deg-C".toList := by
  decide
/-- V88: `"ft/min"` exceeds the width and is kept whole. -/
theorem test_render_V88 :
    after (.render (extractFlags 0xFF#8 0xFF#8) 4) State.reset (fun t => (t.rendered, t.rendered.length)) =
      some (" VEL,   C, mph,knot,ft/min,km/h, m/s, max, min, avg, 2/3,    ,hold".toList, 66) := by decide
/-- V86. -/
theorem test_render_V86 : after (.render (extractFlags 0x00#8 0x00#8) 0) State.reset (fun t => t.rendered) = some "FLOW,F,,,,,,,,,,CMM,".toList := by
  decide

/-! ### The rest of the machine -/

/-- V12 under the recommended instance of `FLOAT_RENDER`: the binary64 nearest to 3/10. -/
theorem test_recommended_float_V12 :
    floatRenderBinary64 { m := 3, e := -1 } = .finite (mkRat 5404319552844595 18014398509481984) := by decide +kernel
theorem test_table_has_thirteen_fields : flagTable.length = Config.nFields := by decide
/-- R171. -/
theorem test_error_code : (timedOut.out.errorCode, readS7.out.errorCode, State.reset.out.errorCode) = (0, 0, 1) := by decide
theorem test_memRead_out_of_range : readS7.memRead 7 2 = none ∧ readS7.memRead 7 1 = some [0xFF#8] ∧ timedOut.memRead 0 1 = none := by decide
/-- P2's first step: `SEND READ_RECORDS_START` hands over the constant. -/
theorem test_send :
    afterStep ((State.reset.selectCommand true).withPending [.send]) (fun t => t.history) = some [.send 0xC400000000000000#64] := by decide
theorem test_recv : afterStep ({ State.reset with pending := [.recv], answers := [.bytes frameS7] } : State) (fun t => (t.received, t.answers)) =
    some ([.bytes frameS7], []) := by decide
/-- P5: `PRIMARY_UNIT out.settings`. -/
theorem test_primaryUnitOfReading : afterStep (readS7.withPending [.primaryUnitOfReading]) (fun t => t.primaryUnit) = some "mphm/s".toList := by decide
theorem test_collect_goes_round :
    afterStep (readS7.withPending [.collect]) (fun t => (t.pending, t.collected.length)) = some ([.recv, .decodeReceived 0, .collect], 1) := by decide
theorem test_newList : afterStep ({ readS7 with collected := [.error .badLength], pending := [.newList] } : State) (fun t => t.collected) = some [] := by
  decide
theorem test_collect_stops : afterStep (timedOut.withPending [.collect]) (fun t => (t.pending, t.collected)) = some ([], []) := by decide
/-- R196: the reading shows after the edge, not before it. -/
theorem test_clock_edge_latches :
    readS7Registered.visibleOutputs.ok = false ∧
    afterStep (readS7Registered.withPending [.clockEdge false]) (fun t => t.visibleOutputs.settings) = some 0x2880#14 := by decide
theorem test_clock_edge_resets :
    afterStep ({ readS7Registered with outReg := readS7.out, pending := [.clockEdge true] } : State) (fun t => t.visibleOutputs.ok) = some false := by
  decide
theorem test_expansions :
    readOne false = [.invoke (encode .readCurrent), .send, .recv, .decodeReceived 0] ∧
    readAll false = [.newList, .invoke (encode .readRecordsStart), .send, .recv, .decodeReceived 0, .collect] ∧
    readAll true = [.newList, .invoke (encode .readRecordsStart), .send, .recv, .decodeReceived 0, .clockEdge false, .collect] := by decide

/-! ### Witnesses: the hypotheses of each statement can be met -/

/-- `DecodeOfEncodeIsTheInstruction`: a produced record in either mode. -/
theorem witness_DecodeOfEncode :
    wellFormed (.render (extractFlags 0xFF#8 0xFF#8) 6) = true ∧ wellFormed (.primaryUnit (extractFlags 0x00#8 0x08#8)) = true := by decide
/-- `EncodeOfDecodeIsTheRequest`. -/
theorem witness_EncodeOfDecode :
    (decode { iface := .rxTimeout, bytes := [] } = .ok (.decodeFrame .timeout) ∧
      ((Iface.rxTimeout : Iface) = .rxTimeout → ([] : List Byte) = [])) ∧
    decode { iface := .flagx, bytes := [0x91#8, 0x00#8] } = .ok (.extractFlags 0x91#8 0x00#8) := ⟨⟨rfl, fun _ => rfl⟩, rfl⟩
/-- `EveryDataPatternDecodes`: lengths on either side of the right one. -/
theorem witness_EveryDataPattern :
    ([0x00#8] : List Byte).length ≠ 2 ∧ ([0x00#8, 0x00#8, 0x00#8] : List Byte).length ≠ 2 ∧
    ([0x00#8, 0x00#8] : List Byte).length ≠ 3 ∧ ([0x00#8, 0x00#8, 0x00#8, 0x00#8] : List Byte).length ≠ 3 := by decide
/-- `SettingsVectorDecodesUnlessCode01`: the four codes. -/
theorem witness_SettingsVector :
    ((0x0002#14).getLsbD 2 = false ∧ (0x0002#14).getLsbD 1 = true) ∧
    ¬((0x0000#14).getLsbD 2 = false ∧ (0x0000#14).getLsbD 1 = true) ∧
    ¬((0x0004#14).getLsbD 2 = false ∧ (0x0004#14).getLsbD 1 = true) ∧
    ¬((0x3FFF#14).getLsbD 2 = false ∧ (0x3FFF#14).getLsbD 1 = true) := by decide
/-- `StepRunsTheDecodedInstruction`. -/
theorem witness_StepRuns :
    (State.reset.withFetchWord 16 0x9100).pending = [.invoke { iface := .flagx, bytes := [0x91#8, 0x00#8] }] ∧
    decode { iface := .flagx, bytes := [0x91#8, 0x00#8] } = .ok (.extractFlags 0x91#8 0x00#8) := by decide
/-- `StepRefusesAnUndecodableRequest`. -/
theorem witness_StepRefuses :
    (State.reset.withPending [.invoke { iface := .flagx, bytes := [] }]).pending = [.invoke { iface := .flagx, bytes := [] }] ∧
    decode { iface := .flagx, bytes := [] } = .error .notAFlagPair := by decide
/-- `StepDecodesTheReceivedEvent`. -/
theorem witness_StepDecodes :
    (owing.withPending [.decodeReceived 1]).pending = [.decodeReceived 1] ∧ owing.received[0]? = some (.bytes frameS7) ∧
    owing.received[1]? = some badFrame ∧ owing.received[2]? = none := ⟨rfl, rfl, rfl, rfl⟩
/-- `HostFunctionsRunOnTheReadingsRecord`: the outputs, and each clause's pending action. -/
theorem witness_HostFunctions (a : Action) :
    (readS7.withPending [a]).visibleOutputs = Outputs.ofReading (readingOf 0x91#8 0x00#8 0x00#8 0x0A#8 0x02#8 0x00#8 0x05#8 0xFF#8) ∧
    (readS7.withPending [a]).pending = [a] := ⟨rfl, rfl⟩
/-- `NoReadingIsUsedWithoutOk`: after a timeout and after reset, with each clause's pending action. -/
theorem witness_NoReading (a : Action) :
    (timedOut.withPending [a]).visibleOutputs.ok = false ∧ (readS7Registered.withPending [a]).visibleOutputs.ok = false ∧
    (timedOut.withPending [a]).pending = [a] := ⟨rfl, rfl, rfl⟩
/-- `CommandAndDecodeDoNotInteract`. -/
theorem witness_CommandAndDecode :
    ((Instr.readCurrent : Instr) = .readCurrent ∨ (Instr.readCurrent : Instr) = .readRecordsStart) ∧
    ((Instr.readRecordsStart : Instr) = .readCurrent ∨ (Instr.readRecordsStart : Instr) = .readRecordsStart) := ⟨.inl rfl, .inr rfl⟩
/-- `DecodeFrameOutcome`, `DecodeFrameRaisesBadLength`, `BadLengthReadsNoByte`, `ErrorLeavesNothingBehind`: the lengths 0, 7, 9. -/
theorem witness_BadLengths : ([] : List Byte).length ≠ 8 ∧ (frameS7.take 7).length ≠ 8 ∧ (frameS7 ++ [0x00#8]).length ≠ 8 ∧ frameS7.length = 8 := by decide
/-- `ChecksComeInOrder`: each clause, the timeout, the length, and a frame that is held. -/
theorem witness_ChecksComeInOrder :
    timedOut.rxTimeout = true ∧ (State.reset.rxTimeout = false ∧ State.reset.rxLen ≠ 8) ∧
    (readS7.FrameHeld ∧ readS7.rxTimeout = false ∧ readS7.rxLen = 8) :=
  ⟨rfl, ⟨rfl, by decide⟩, ⟨⟨rfl, (fun h => by cases h), fun _ => rfl⟩, rfl, rfl⟩⟩
/-- `PartsOfAReadingAreIndependent`: V70 with bytes 2 to 4 replaced keeps the secondary value's bytes and the flags bytes. -/
theorem witness_PartsOfAReading : (0x09#8 : Byte) = 0x09#8 ∧ (0x29#8 : Byte) = 0x29#8 ∧ (0xFE#8 : Byte) = 0xFE#8 ∧ (0xA1#8 : Byte) = 0xA1#8 := by decide
/-- `UnreadBitsDoNotMatter`: V32 and V58a differ from V30 in unread bits only. -/
theorem witness_UnreadBits : 0x40#8 &&& 0xBF#8 = 0x00#8 &&& 0xBF#8 ∧ 0x05#8 &&& 0xFA#8 = 0x00#8 &&& 0xFA#8 := by decide
/-- `MantissaIsABijection` and `ExponentIsABijection`: the ends of the ranges. -/
theorem witness_Ranges :
    (0 : Nat) ≤ 65535 ∧ (65535 : Nat) ≤ 65535 ∧ ((-128 : Int) ≤ -128 ∧ (-128 : Int) ≤ 127) ∧ ((-128 : Int) ≤ 127 ∧ (127 : Int) ≤ 127) := by decide
/-- `DenotedValueRange`: a value that is not zero, and the exponent byte on either side of the boundary. -/
theorem witness_DenotedValueRange :
    denoted (decodeValue24 0x00#8 0x01#8 0x00#8) ≠ 0 ∧ (0x7F#8).toNat ≤ 127 ∧ 127 < (0x80#8).toNat := by
  refine ⟨?_, by decide, by decide⟩
  have : denoted (decodeValue24 0x00#8 0x01#8 0x00#8) = 1 := by simp [denoted, decodeValue24, mantissa, sext8, Config.expBase]
  rw [this]; decide
/-- `ModeGatesTheUnits` and `PrimaryUnitOfAProducedRecord`: either mode. -/
theorem witness_Modes : (0x7F#8).getLsbD 7 = false ∧ (0x80#8).getLsbD 7 = true := by decide
/-- `RenderLengthLaw`: the width where the closed form begins. -/
theorem witness_RenderLength : (extractFlags 0x91#8 0x00#8).inSets = true ∧ 6 ≤ 6 := by decide

/-- The outputs of the reading of S7 follow the inputs. -/
theorem readS7_follows (p : List Action) : (readS7.withPending p).OutputsFollow := ⟨rfl, rfl, rfl, fun _ => ⟨frameS7, rfl, rfl, rfl⟩⟩
/-- The outputs of a reading are sound. -/
theorem readS7_sound : readS7.out.Sound := ⟨by decide, fun _ => ⟨frameS7, rfl, rfl⟩⟩
/-- The outputs after a timeout are sound. -/
theorem timedOut_sound : timedOut.out.Sound := ⟨by decide, fun h => Bool.noConfusion h⟩

/-- `ReadingsGiveWellFormedHostFunctions`. -/
theorem witness_ReadingsGiveWellFormed : readS7.out.Sound ∧ readS7.out.ok = true := ⟨readS7_sound, rfl⟩
/-- `ClockEdgeLatchesOrResets`, `OutRegIsAParameter` and `OutputsAppearAtOnceOrAtTheNextEdge`: `OUT_REG` 0 and 1, either kind of edge pending. -/
theorem witness_ClockEdge (rst : Bool) :
    (readS7.outRegPresent = false ∧ (readS7.withPending [.clockEdge rst]).pending = [.clockEdge rst]) ∧
    (readS7Registered.outRegPresent = true ∧ (readS7Registered.withPending [.clockEdge rst]).pending = [.clockEdge rst]) := ⟨⟨rfl, rfl⟩, rfl, rfl⟩
/-- `TransportCallsAreRecorded`: each clause's pending action, with and without an answer left. -/
theorem witness_PendingActions (a : Action) :
    (State.reset.withPending [a]).pending = [a] ∧ (State.reset.withPending [a]).answers = [] ∧
    ({ State.reset with pending := [a], answers := [.timeout] } : State).answers = [.timeout] := ⟨rfl, rfl, rfl⟩
/-- `TransportSeesProgramOrder` and `OutRegIsAParameter`: a step that makes a call. -/
theorem witness_TransportOrder : step (State.reset.withPending [.send]) = .next ((State.reset.withPending []).sendCommand) := rfl
/-- A stream that has these events owed and passed, and is running. -/
def runningWith (owed passed : List Nat) (lastWasBad : Bool) : StreamPhase :=
  { running := true, owed := owed, passed := passed, lastWasBad := lastWasBad }
theorem streaming_phase (a : List Action) : (streaming.withPending a).callerPhase = some { CallerPhase.atRest with streams := [.begun] } := by
  show streaming.callerPhase = _
  decide
theorem owing_phase (a : List Action) :
    (owing.withPending a).callerPhase = some { commandOpen := false, receives := 2, streams := [runningWith [0, 1] [] false] } := by
  show owing.callerPhase = _
  decide
theorem afterBad_phase (a : List Action) :
    (afterBad.withPending a).callerPhase = some { commandOpen := false, receives := 1, streams := [runningWith [] [0] true] } := by
  show afterBad.callerPhase = _
  decide
theorem lateAnswer_phase (a : List Action) :
    (lateAnswer.withPending a).callerPhase = some { commandOpen := false, receives := 3, streams := [runningWith [1, 2] [] false] } := by
  show lateAnswer.callerPhase = _
  decide
/-- `ReceivingKeepsTheDuties`: between commands with nothing to do after the receive, and in a stream with events owed and something to do. -/
theorem witness_ReceivingKeepsTheDuties (abort : Bool) :
    ((State.reset.withPending [.recv]).DutiesKept abort ∧ (State.reset.withPending [.recv]).callerPhase = some .atRest ∧
      CallerPhase.atRest.settled = true ∧ step (State.reset.withPending [.recv]) = .next (State.reset.withPending []).receiveEvent) ∧
    ((owing.withPending [.recv, .decodeReceived 2]).DutiesKept abort ∧
      (owing.withPending [.recv, .decodeReceived 2]).pending = [.recv, .decodeReceived 2]) :=
  ⟨⟨State.dutiesKept_of_pending_ne_nil abort rfl (fun h => by cases h), rfl, rfl, rfl⟩,
    State.dutiesKept_of_pending_ne_nil abort (owing_phase _) (fun h => by cases h), rfl⟩
/-- `EveryStreamEventIsPassedOnce`, the second to fourth clauses: an event evaluated already, one with an older one of its stream owed, one
of no stream, each the caller's to decode, and an operand written out; each step answers a next state. -/
theorem witness_EveryStreamEvent :
    ((0 : Nat) ∈ (runningWith [] [0] true).passed ∧ afterBad.receiveNumber 0 = 0 ∧
      ∃ t, step (afterBad.withPending [.decodeReceived 0]) = .next t) ∧
    ((1 : Nat) ∈ (runningWith [0, 1] [] false).owed.tail ∧ owing.receiveNumber 0 = 1 ∧
      ∃ t, step (owing.withPending [.decodeReceived 0]) = .next t) ∧
    ((0 : Nat) ∉ (runningWith [1, 2] [] false).events ∧ lateAnswer.receiveNumber 2 = 0 ∧
      ∃ t, step (lateAnswer.withPending [.decodeReceived 2]) = .next t) ∧
    ∃ t, step (afterBad.withPending [.invoke (requestOfEvent badFrame)]) = .next t :=
  ⟨⟨by decide, rfl, ⟨_, execDecodeFrame_eq badFrame _⟩⟩, ⟨by decide, rfl, ⟨_, execDecodeFrame_eq (.bytes frameS7) _⟩⟩,
    ⟨by decide, rfl, ⟨_, execDecodeFrame_eq (.bytes frameS7) _⟩⟩, ⟨_, execDecodeFrame_eq badFrame _⟩⟩
/-- What the caller of `owing` holds agrees with the history. -/
theorem owing_held : owing.CallerHeld := by
  have hp := owing_phase []
  refine ⟨fun n ev h => ?_, fun p h => ?_, fun p h => ?_, fun p h => ?_⟩
  · have : Interaction.evaluate n ev ∈ [Interaction.send (commandWord true), .receive Config.rxTimeoutMs badFrame,
        .receive Config.rxTimeoutMs (.bytes frameS7)] := h
    simp at this
  all_goals
    cases hp.symm.trans h
    decide
/-- `EveryStreamEventIsPassedOnce`, the first clause: the state with two events owed meets the invariant, whatever is pending. -/
theorem witness_owing_inv (a : List Action) : (owing.withPending a).Inv ∧ (runningWith [0, 1] [] false).owed = 0 :: [1] := by
  refine ⟨State.Inv.withPending (s := owing) ⟨⟨rfl, rfl, rfl, fun h => Bool.noConfusion h⟩,
    ⟨rfl, fun h => Bool.noConfusion h, fun _ => rfl⟩, rfl, by decide, by decide, fun w h => .inr ?_, owing_held, fun h => ?_,
    by decide, fun h => Bool.noConfusion h⟩ a, rfl⟩
  · have hw : Interaction.send w ∈ [Interaction.send (commandWord true), .receive Config.rxTimeoutMs badFrame,
        .receive Config.rxTimeoutMs (.bytes frameS7)] := h
    rw [show (0xC400000000000000#64) = commandWord true by decide]
    simpa using hw
  · cases h
/-- `StreamMustBeDrained`: each clause's state; the last clause with a stream running, with events owed, and after a `BadLength`. -/
theorem witness_StreamMustBeDrained (a : Action) :
    (((State.reset.selectCommand true).withPending [.send]).callerPhase = some .atRest ∧
      ((State.reset.selectCommand true).withPending [.send]).txData = 0xC400000000000000#64) ∧
    ((streaming.withPending [a]).callerPhase = some { CallerPhase.atRest with streams := [.begun] } ∧ (streaming.withPending [a]).pending = [a]) ∧
    ((streaming.withPending []).pending = [] ∧ (owing.withPending []).pending = [] ∧ (afterBad.withPending []).pending = []) ∧
    (afterBad.withPending []).callerPhase = some { commandOpen := false, receives := 1, streams := [runningWith [] [0] true] } :=
  ⟨⟨rfl, by decide⟩, ⟨streaming_phase [a], rfl⟩, ⟨rfl, rfl, rfl⟩, afterBad_phase []⟩

/-- The phase a history leads to from rest. -/
def phaseOf (calls : List Interaction) : Option CallerPhase := calls.foldlM CallerPhase.after .atRest
/-- What breaks the duties: a record skipped, a record evaluated twice, in the stream or after its end, a send in a stream, two commands. -/
theorem test_duties_broken :
    phaseOf [.send 0xC400000000000000#64, .receive 5 badFrame, .receive 5 (.bytes frameS7), .evaluate 1 (.bytes frameS7)] = none ∧
    phaseOf [.send 0xC400000000000000#64, .receive 5 badFrame, .evaluate 0 badFrame, .evaluate 0 badFrame] = none ∧
    phaseOf [.send 0xC400000000000000#64, .receive 5 .timeout, .evaluate 0 .timeout, .evaluate 0 .timeout] = none ∧
    phaseOf [.send 0xC400000000000000#64, .receive 5 badFrame, .send 0xB300000000000000#64] = none ∧
    phaseOf [.send 0xB300000000000000#64, .send 0xB300000000000000#64] = none := by decide
/-- What keeps them: a stream received ahead and evaluated in order after its timeout, each event once though two are equal; the answer to a
`READ_CURRENT` evaluated inside a later stream, or twice. -/
theorem test_duties_kept :
    (phaseOf [.send 0xC400000000000000#64, .receive 5 badFrame, .receive 5 badFrame, .receive 5 .timeout, .evaluate 0 badFrame,
      .evaluate 1 badFrame, .evaluate 2 .timeout]).map CallerPhase.settled = some true ∧
    (phaseOf [.send 0xB300000000000000#64, .receive 5 badFrame, .send 0xC400000000000000#64, .receive 5 (.bytes frameS7),
      .evaluate 0 badFrame, .evaluate 1 (.bytes frameS7), .evaluate 0 badFrame]).map CallerPhase.streams =
      some [runningWith [] [1] false] := by decide
/-- A stop after a `BadLength` only where the caller's policy is to abort there. -/
theorem test_abort_is_a_policy :
    ((runningWith [] [0] true).mayLeave true, (runningWith [] [0] true).mayLeave false, (runningWith [1] [0] false).mayLeave true) =
      (true, false, false) := by decide
/-- `CollectGoesRoundUntilEndOfStream`: either clause, the second with an error as well as with a reading. -/
theorem witness_Collect :
    ((timedOut.withPending [.collect]).visibleOutputs.Sound ∧ (timedOut.withPending [.collect]).pending = [.collect] ∧
      (timedOut.withPending [.collect]).visibleOutputs.endOfStream = true) ∧
    ((readS7.withPending [.collect]).visibleOutputs.Sound ∧ (readS7.withPending [.collect]).visibleOutputs.ok = true) ∧
    ((State.reset.withPending [.collect]).visibleOutputs.Sound ∧
      (State.reset.withPending [.collect]).visibleOutputs.errBadLength = true) :=
  ⟨⟨timedOut_sound, rfl, rfl⟩, ⟨readS7_sound, rfl⟩, ⟨by decide, fun h => Bool.noConfusion h⟩, rfl⟩
/-- `OperationsChangeOnlyTheirOwn`: an instruction of each kind that is none of the excepted ones. -/
theorem witness_OperationsChange :
    exec .readCurrent readS7 = .next (readS7.selectCommand false) ∧
    exec (.extractFlags 0x91#8 0x00#8) readS7 = .next (readS7.driveFlagx 0x91#8 0x00#8) ∧
    (∀ ev, (Instr.readCurrent : Instr) ≠ .decodeFrame ev) ∧
    (Instr.extractFlags 0x91#8 0x00#8 ≠ .readCurrent ∧ Instr.extractFlags 0x91#8 0x00#8 ≠ .readRecordsStart) ∧
    (∀ b0 b1 b2, (Instr.readCurrent : Instr) ≠ .decodeValue24 b0 b1 b2) ∧ (∀ b c, (Instr.readCurrent : Instr) ≠ .extractFlags b c) ∧
    (∀ r, (Instr.readCurrent : Instr) ≠ .primaryUnit r) ∧ (∀ r, (Instr.readCurrent : Instr) ≠ .secondaryUnit r) ∧
    (∀ r w, (Instr.readCurrent : Instr) ≠ .render r w) := by
  refine ⟨rfl, rfl, ?_, ⟨?_, ?_⟩, ?_, ?_, ?_, ?_, ?_⟩ <;> intros <;> intro h <;> cases h
/-- `EveryStepKeepsTheInvariant`: a state with a reading and `OUT_REG = 1` meets the invariant, and steps. -/
theorem witness_EveryStepKeepsTheInvariant :
    (readS7Registered.withPending [.clockEdge false]).Inv ∧
    step (readS7Registered.withPending [.clockEdge false]) = .next (readS7Registered.withPending []).latchOutReg := by
  refine ⟨State.Inv.withPending (s := readS7Registered) ⟨⟨rfl, rfl, rfl, fun _ => ⟨frameS7, rfl, rfl, rfl⟩⟩,
    ⟨rfl, (fun h => Bool.noConfusion h), fun _ => rfl⟩, by decide, by decide, by decide, fun _ h => ?_, ⟨fun _ _ h => ?_, fun _ h => ?_,
      fun _ h => ?_, fun _ h => ?_⟩, fun h => ?_, by decide, fun h => Bool.noConfusion h⟩ _, rfl⟩
  · cases h
  · cases h
  all_goals
    cases h
    try decide
/-- `ReadyStepsComplete`: a host function of a reading, an operation invoked, and a round of `READ_ALL`. -/
theorem witness_ReadyStepsComplete :
    ((readS7.withPending [.renderReading 6]).visibleOutputs.Sound ∧ (readS7.withPending [.renderReading 6]).Ready) ∧
    ((timedOut.withPending [.invoke (encode .readCurrent)]).visibleOutputs.Sound ∧
      (timedOut.withPending [.invoke (encode .readCurrent)]).Ready) ∧
    (timedOut.withPending [.collect]).Ready :=
  ⟨⟨readS7_sound, rfl⟩, ⟨timedOut_sound, ⟨.readCurrent, rfl⟩⟩, .inr (.inr rfl)⟩
/-- A stream with a bad frame in it (P4 (b)), after earlier calls and with `OUT_REG = 1`. -/
def streamS7 : State :=
  { readS7Registered with
    pending := readAll true
    answers := [.bytes frameS7, .bytes (frameS7 ++ [0#8]), .timeout]
    received := [.timeout]
    history := [.receive 5 .timeout] }
/-- What the caller holds there agrees with the history, with no stream before. -/
theorem streamS7_held : streamS7.CallerHeld ∧ streamS7.callerPhase = some { CallerPhase.atRest with receives := 1 } := by
  refine ⟨⟨fun n ev h => ?_, fun p h => ?_, fun p h => ?_, fun p h => ?_⟩, rfl⟩
  · simp [streamS7] at h
  all_goals
    cases h
    decide
/-- `ReadAllGathersTheStream`: that state, and P4 (a), the empty stream with `OUT_REG = 0`. -/
theorem witness_ReadAll :
    (streamS7.pending = readAll streamS7.outRegPresent ∧
      streamS7.answers = [frameS7, frameS7 ++ [0#8]].map .bytes ++ .timeout :: [] ∧
      ({ CallerPhase.atRest with receives := 1 } : CallerPhase).commandOpen = false ∧
      ({ CallerPhase.atRest with receives := 1 } : CallerPhase).settled = true) ∧
    ({ State.reset with pending := readAll false, answers := [.timeout] } : State).answers =
      ([] : List (List Byte)).map .bytes ++ .timeout :: [] := ⟨⟨rfl, rfl, rfl, rfl⟩, rfl⟩

end Sys2Proof.Tests
end

section
/-!
PROOFS. What each operation and each pending action does to the state, as equations, and the statements on the step as a whole
(00_scope.md).
-/

namespace Sys2Proof.Machine

/-! ### A step by its pending action -/

/-- A step runs the oldest pending action on the state without it. -/
theorem step_of_pending {s : State} {a : Action} {rest : List Action} (h : s.pending = a :: rest) :
    step s = runAction a (s.withPending rest) := by
  simp only [step, runPending, h]

/-- A request that denotes an operation runs it. -/
theorem runRequest_of_decode_ok {r : Request} {i : Instr} (h : decode r = .ok i) (s : State) : runRequest r s = exec i s := by
  simp only [runRequest, h]

/-! ### The state an operation leaves -/

/-- The state an operation leaves; `exec_eq` ties it to `exec`. -/
def State.afterInstr (s : State) : Instr → State
  | .readCurrent => s.selectCommand false
  | .readRecordsStart => s.selectCommand true
  | .decodeFrame ev => (s.driveEvent ev).driveOutcome (outcomeOf ev)
  | .decodeValue24 b0 b1 b2 => s.driveDecfp24 b0 b1 b2
  | .extractFlags b c => s.driveFlagx b c
  | .primaryUnit settings => s.setPrimaryUnit (primaryUnitText settings)
  | .secondaryUnit settings => s.setSecondaryUnit (secondaryUnitText settings)
  | .render settings minWidth => s.setRendered (renderText settings minWidth)

/-- Everything an operation can do: it answers a next state, for `DECODE_FRAME` because an evaluation of an event always answers. -/
theorem exec_eq (i : Instr) (s : State) : exec i s = .next (s.afterInstr i) := by
  cases i with
  | decodeFrame ev => exact execDecodeFrame_eq ev s
  | readCurrent | readRecordsStart | decodeValue24 | extractFlags | primaryUnit | secondaryUnit | render => rfl

theorem eq_afterInstr_of_exec {i : Instr} {s t : State} (h : exec i s = .next t) : t = s.afterInstr i :=
  (Host.Outcome.next.inj ((exec_eq i s).symm.trans h)).symm

/-! ### What leaves `OUT_REG` alone (R7) -/

@[simp] theorem State.driveEvent_outRegPresent (s : State) (ev : RxEvent) : (s.driveEvent ev).outRegPresent = s.outRegPresent := by
  cases ev <;> rfl

@[simp] theorem State.driveOutcome_outRegPresent (s : State) (o : DecodeOutcome) : (s.driveOutcome o).outRegPresent = s.outRegPresent := by
  cases o with
  | reading r => rfl
  | error e => cases e; rfl
  | endOfStream => rfl

@[simp] theorem State.clockEdge_outRegPresent (s : State) (rst : Bool) : (s.clockEdge rst).outRegPresent = s.outRegPresent := by
  cases h : s.outRegPresent with
  | false => rw [State.clockEdge_absent s rst h, h]
  | true =>
    cases rst with
    | false => simp [State.clockEdge_latch s h, h]
    | true => simp [State.clockEdge_reset s h, h]

@[simp] theorem State.afterInstr_outRegPresent (s : State) (i : Instr) : (s.afterInstr i).outRegPresent = s.outRegPresent := by
  cases i <;> simp [State.afterInstr]

theorem ActionEffect.outRegPresent_eq {s t : State} {a : Action} (h : ActionEffect s t a) : t.outRegPresent = s.outRegPresent := by
  cases h with
  | ran r i hreq hdecode hexec => simp [eq_afterInstr_of_exec hexec]
  | decoded back ev hev hexec => simp [eq_afterInstr_of_exec hexec]
  | sent ht | received ht | began ht | stopped ho ht | wentRound o ho hne ht | clocked rst ht => simp [ht]

theorem step_outRegPresent {s t : State} (h : step s = .next t) : t.outRegPresent = s.outRegPresent := by
  rcases step_next h with ⟨-, rfl⟩ | ⟨a, rest, -, effect⟩
  · rfl
  · exact effect.outRegPresent_eq

/-- With `OUT_REG = 0` a clock edge only leaves the script (R195, log 12). -/
theorem step_clockEdge_of_outReg_absent {s : State} {rest : List Action} {rst : Bool} (habsent : s.outRegPresent = false)
    (hpending : s.pending = .clockEdge rst :: rest) : step s = .next (s.withPending rest) :=
  calc step s = .next ((s.withPending rest).clockEdge rst) := step_of_pending hpending
    _ = .next (s.withPending rest) := by rw [State.clockEdge_absent (s.withPending rest) rst habsent]

/-! ### The statements -/

/-- Settles O7: the step runs the request, and the request runs what it decodes to. -/
theorem stepRunsTheDecodedInstruction : Obligations.StepRunsTheDecodedInstruction := by
  intro s r rest i hpending hdecode
  calc step s = runRequest r (s.withPending rest) := step_of_pending hpending
    _ = exec i (s.withPending rest) := runRequest_of_decode_ok hdecode _

/-- Settles O47, by the cases of what an action can do. -/
theorem outRegIsAParameter : Obligations.OutRegIsAParameter :=
  ⟨fun _ _ => step_outRegPresent, fun _ _ _ => step_clockEdge_of_outReg_absent⟩

end Sys2Proof.Machine
end

section
/-!
PROOFS. A settings vector and the record it denotes, the flags after an evaluation, and the state after reset (10_state.md).
-/

namespace Sys2Proof

open Config

/-! ### The number a byte sequence carries (R55) -/

@[simp] theorem bytesOfNat_length (n w : Nat) : (bytesOfNat n w).length = n := by
  induction n generalizing w with
  | zero => rfl
  | succ n ih => simp [bytesOfNat, ih]

theorem natOfBytes_snoc (bs : List Byte) (b : Byte) : natOfBytes (bs ++ [b]) = 256 * natOfBytes bs + b.toNat := by
  simp [natOfBytes]

/-- `n` bytes carry the number modulo `256^n`. -/
theorem natOfBytes_bytesOfNat (n w : Nat) : natOfBytes (bytesOfNat n w) = w % 256 ^ n := by
  induction n generalizing w with
  | zero => simp [bytesOfNat, natOfBytes, Nat.mod_one]
  | succ n ih =>
    calc natOfBytes (bytesOfNat (n + 1) w)
        = 256 * natOfBytes (bytesOfNat n (w / 256)) + w % 256 := by simp [bytesOfNat, natOfBytes_snoc]
      _ = w % 256 + 256 * (w / 256 % 256 ^ n) := by rw [ih, Nat.add_comm]
      _ = w % 256 ^ (n + 1) := by rw [Nat.pow_succ', Nat.mod_mul]

/-! ### The settings vector and its record (R25, R71) -/

theorem natOfBytes_settingsBytes (v : BitVec 14) : natOfBytes (settingsBytes v) = v.toNat := by
  have hv : v.toNat < 2 ^ 14 := v.isLt
  rw [settingsBytes, natOfBytes_bytesOfNat, Nat.mod_eq_of_lt (by omega)]

/-- Two bytes that carry a 14-bit vector decode to the vector's record, where it has one. -/
theorem decodeSettings_of_natOfBytes_eq {bs : List Byte} {v : BitVec 14} (hlen : bs.length = 2) (hv : natOfBytes bs = v.toNat) :
    decodeSettings bs = (unpackSettings v).elim (.error .settingsCodeNeverProduced) .ok := by
  obtain ⟨hi, lo, rfl⟩ := List.length_eq_two.mp hlen
  rw [decodeSettings, hv, if_pos v.isLt, BitVec.ofNat_toNat, BitVec.setWidth_eq]
  cases unpackSettings v <;> rfl

theorem decodeSettings_settingsBytes (v : BitVec 14) :
    decodeSettings (settingsBytes v) = (unpackSettings v).elim (.error .settingsCodeNeverProduced) .ok :=
  decodeSettings_of_natOfBytes_eq (bytesOfNat_length 2 _) (natOfBytes_settingsBytes v)

/-- The code `0b01` of `cmm_cfm` is the only one without a string (U7). -/
theorem cmmCfmOfCode_eq_none_iff (populated cfm : Bool) : cmmCfmOfCode populated cfm = none ↔ populated = false ∧ cfm = true := by
  revert populated cfm
  decide

theorem unpackSettings_eq_none_iff (v : BitVec 14) : unpackSettings v = none ↔ v.getLsbD 2 = false ∧ v.getLsbD 1 = true := by
  rw [unpackSettings, Option.map_eq_none_iff, cmmCfmOfCode_eq_none_iff]

/-- The string of a code of `cmm_cfm` gives the code back. -/
theorem codes_of_cmmCfmOfCode {populated cfm : Bool} {t : Text} (h : cmmCfmOfCode populated cfm = some t) :
    (t == txtCFM || t == txtCMM) = populated ∧ (t == txtCFM) = cfm := by
  match populated, cfm, h with
  | false, false, rfl => decide
  | true, false, rfl => decide
  | true, true, rfl => decide

/-- The vector whose codes are the bits of `v` is `v`. -/
theorem settingsVector_getLsbD (v : BitVec 14) :
    settingsVector (v.getLsbD 13) (v.getLsbD 12) (v.getLsbD 11) (v.getLsbD 10) (v.getLsbD 9) (v.getLsbD 8) (v.getLsbD 7) (v.getLsbD 6)
      (v.getLsbD 5) (v.getLsbD 4) (v.getLsbD 3) (v.getLsbD 2) (v.getLsbD 1) (v.getLsbD 0) = v := by
  refine BitVec.eq_of_getLsbD_eq fun i hi => ?_
  rw [Machine.getLsbD_settingsVector]
  interval_cases i <;> rfl

/-- Each field's string determines its code. -/
theorem packSettings_of_codes (mode deg mph knot ftMin kmh mS max min avg twoThird hold : Bool) (cmmCfm : Text) :
    packSettings
      { mode := textIf mode txtVEL txtFLOW, deg := textIf deg txtC txtF, mph := textIf mph txtMph [], knot := textIf knot txtKnot []
        ftMin := textIf ftMin txtFtMin [], kmh := textIf kmh txtKmh [], mS := textIf mS txtMS [], max := textIf max txtMax []
        min := textIf min txtMin [], avg := textIf avg txtAvg [], twoThird := textIf twoThird txtTwoThird [], cmmCfm := cmmCfm
        hold := textIf hold txtHold [] } =
      settingsVector mode deg mph knot ftMin kmh mS max min avg twoThird (cmmCfm == txtCFM || cmmCfm == txtCMM) (cmmCfm == txtCFM) hold := by
  have code := Machine.textIf_beq
  rw [packSettings, code mode txtVEL txtFLOW (by decide), code deg txtC txtF (by decide), code mph txtMph [] (by decide),
    code knot txtKnot [] (by decide), code ftMin txtFtMin [] (by decide), code kmh txtKmh [] (by decide), code mS txtMS [] (by decide),
    code max txtMax [] (by decide), code min txtMin [] (by decide), code avg txtAvg [] (by decide),
    code twoThird txtTwoThird [] (by decide), code hold txtHold [] (by decide)]

/-- Packing the record of a vector gives the vector back. -/
theorem packSettings_of_unpackSettings {v : BitVec 14} {r : SettingsFlags} (h : unpackSettings v = some r) : packSettings r = v := by
  obtain ⟨t, ht, rfl⟩ := Option.map_eq_some_iff.mp h
  obtain ⟨hpopulated, hcfm⟩ := codes_of_cmmCfmOfCode ht
  rw [packSettings_of_codes, hpopulated, hcfm, settingsVector_getLsbD]

/-- Settles O6: the vector's two bytes decode to its record, and only the code `0b01` has none. -/
theorem settingsVectorDecodesUnlessCode01 : Obligations.SettingsVectorDecodesUnlessCode01 := by
  intro v
  rw [decodeSettings_settingsBytes, ← unpackSettings_eq_none_iff]
  refine ⟨fun hnone => by rw [hnone]; rfl, fun hsome => ?_⟩
  obtain ⟨r, hr⟩ := Option.ne_none_iff_exists'.mp hsome
  exact ⟨r, by rw [hr]; rfl, packSettings_of_unpackSettings hr⟩

end Sys2Proof

namespace Sys2Proof.Machine

/-! ### The flags after an evaluation (R30, R171) -/

theorem State.driveOutcome_one_flag (s : State) (o : DecodeOutcome) :
    [(s.driveOutcome o).out.ok, (s.driveOutcome o).out.errBadLength, (s.driveOutcome o).out.endOfStream].count true = 1 := by
  cases o with
  | reading r => rfl
  | error e => cases e; rfl
  | endOfStream => rfl

theorem State.driveOutcome_errorCode (s : State) (o : DecodeOutcome) :
    (s.driveOutcome o).out.errorCode = if o = .error .badLength then 1 else 0 := by
  cases o with
  | reading r => rfl
  | error e => cases e; rfl
  | endOfStream => rfl

/-- Settles O21: an evaluation drives the outcome of its event, and each outcome drives one flag and its own code. -/
theorem exactlyOneFlagAfterAnEvaluation : Obligations.ExactlyOneFlagAfterAnEvaluation := fun ev s =>
  ⟨_, exec_eq (.decodeFrame ev) s, State.driveOutcome_one_flag _ _, State.driveOutcome_errorCode _ _⟩

/-! ### The state after reset (R33, R195, R196) -/

/-- The inputs at reset are an empty sequence of bytes, so the outputs are those of `BadLength` (log 5). -/
theorem State.reset_outputsFollow : State.reset.OutputsFollow where
  endOfStream := rfl
  errBadLength := rfl
  ok := rfl
  data hok := Bool.noConfusion hok

theorem State.reset_frameHeld : State.reset.FrameHeld where
  wf := State.reset_frame_wf
  noneOnTimeout _ := rfl
  length _ := rfl

theorem State.reset_callerPhase : State.reset.callerPhase = some .atRest := rfl

theorem State.eq_atRest_of_reset_callerPhase {p : CallerPhase} (hp : State.reset.callerPhase = some p) : p = .atRest :=
  Option.some.inj (hp.symm.trans State.reset_callerPhase)

/-- Before the first interaction the caller holds no event and no stream has begun. -/
theorem State.reset_callerHeld : State.reset.CallerHeld where
  unaltered _ _ hmem := absurd hmem List.not_mem_nil
  receives p hp := by rw [State.eq_atRest_of_reset_callerPhase hp]; rfl
  received p hp n hn := by
    rw [State.eq_atRest_of_reset_callerPhase hp] at hn
    exact absurd hn List.not_mem_nil
  distinct p hp := by
    rw [State.eq_atRest_of_reset_callerPhase hp]
    exact List.nodup_nil

/-- Outputs right after reset are sound with either error flag: `ok` is 0, and at most the error flag is 1 (R33, R196). -/
theorem Outputs.atReset_sound (errBadLength : Bool) : (Outputs.atReset errBadLength).Sound where
  exclusive := by cases errBadLength <;> decide
  data hok := Bool.noConfusion hok

/-- `flagx` on two zero bytes: `FLOW` with the populated code of `CMM` (R112). -/
theorem State.reset_flagx : State.reset.flagx.settings = packSettings (extractFlags State.reset.flagx.b State.reset.flagx.c) := by
  decide

/-- Settles O57: each part of the invariant at reset. -/
theorem invHoldsAtReset : Obligations.InvHoldsAtReset where
  outputs := State.reset_outputsFollow
  frame := State.reset_frameHeld
  txData := by decide
  decfp24 := by decide
  flagx := State.reset_flagx
  sent _ hmem := absurd hmem List.not_mem_nil
  caller := State.reset_callerHeld
  collected := List.not_mem_nil
  outReg := Outputs.atReset_sound false

end Sys2Proof.Machine
end

section
/-!
PROOFS. What each step adds to the history of the run, and that no step faults (20_memory.md).
-/

namespace Sys2Proof.Machine

/-! ### What leaves the history alone (R44) -/

@[simp] theorem State.driveEvent_history (s : State) (ev : RxEvent) : (s.driveEvent ev).history = s.history := by
  cases ev <;> rfl

@[simp] theorem State.driveOutcome_history (s : State) (o : DecodeOutcome) : (s.driveOutcome o).history = s.history := by
  cases o with
  | reading r => rfl
  | error e => cases e; rfl
  | endOfStream => rfl

@[simp] theorem State.clockEdge_history (s : State) (rst : Bool) : (s.clockEdge rst).history = s.history := by
  cases h : s.outRegPresent with
  | false => rw [State.clockEdge_absent s rst h]
  | true =>
    cases rst with
    | false => simp [State.clockEdge_latch s h]
    | true => simp [State.clockEdge_reset s h]

/-- No operation of the block calls the transport. -/
@[simp] theorem State.afterInstr_history (s : State) (i : Instr) : (s.afterInstr i).history = s.history := by
  cases i <;> simp [State.afterInstr]

/-! ### The interaction an action makes (log 17) -/

/-- The interaction an action makes with the transport or the frame decoder, if it makes one; `ActionEffect.history_eq` ties it to what
the action records. -/
def State.callOf (s : State) : Action → Option Interaction
  | .send => some (.send s.txData)
  | .recv => some (.receive Config.rxTimeoutMs s.nextAnswer)
  | .decodeReceived back => s.received[back]?.map (.evaluate (s.receiveNumber back))
  | .invoke _ | .primaryUnitOfReading | .secondaryUnitOfReading | .renderReading _ | .newList | .collect | .clockEdge _ => none

@[simp] theorem State.withPending_callOf (s : State) (p : List Action) (a : Action) : (s.withPending p).callOf a = s.callOf a := by
  cases a <;> rfl

/-- Each kind of interaction is made by one kind of action only, on the operands it has there. -/
theorem State.callOf_eq_some {s : State} {a : Action} {c : Interaction} (h : s.callOf a = some c) :
    (a = .send ∧ c = .send s.txData) ∨ (a = .recv ∧ c = .receive Config.rxTimeoutMs s.nextAnswer) ∨
      ∃ back ev, a = .decodeReceived back ∧ s.received[back]? = some ev ∧ c = .evaluate (s.receiveNumber back) ev := by
  cases a with
  | send => exact .inl ⟨rfl, (Option.some.inj h).symm⟩
  | recv => exact .inr (.inl ⟨rfl, (Option.some.inj h).symm⟩)
  | decodeReceived back =>
    obtain ⟨ev, hev, hc⟩ := Option.map_eq_some_iff.mp h
    exact .inr (.inr ⟨back, ev, rfl, hev, hc.symm⟩)
  | invoke | primaryUnitOfReading | secondaryUnitOfReading | renderReading | newList | collect | clockEdge => cases h

/-- An action that invokes an operation by a request makes no interaction. -/
theorem State.callOf_of_requestOfAction {s : State} {a : Action} {r : Request} (h : requestOfAction s a = some r) :
    s.callOf a = none := by
  cases a with
  | invoke | primaryUnitOfReading | secondaryUnitOfReading | renderReading => rfl
  | decodeReceived | send | recv | newList | collect | clockEdge => cases h

theorem ActionEffect.history_eq {s t : State} {a : Action} (h : ActionEffect s t a) : t.history = s.history ++ (s.callOf a).toList := by
  cases h with
  | ran r i hreq hdecode hexec => simp [eq_afterInstr_of_exec hexec, State.callOf_of_requestOfAction hreq]
  | decoded back ev hev hexec => simp [eq_afterInstr_of_exec hexec, State.callOf, hev]
  | sent ht | received ht | began ht | stopped ho ht | wentRound o ho hne ht | clocked rst ht => simp [ht, State.callOf]

/-! ### The interaction a step makes -/

/-- The interaction the oldest pending action makes; `step_history` ties it to the step. -/
def State.nextCall (s : State) : Option Interaction := s.pending.head?.bind s.callOf

/-- A step appends the interaction of the oldest pending action to the history, and nothing else. -/
theorem step_history {s t : State} (h : step s = .next t) : t.history = s.history ++ s.nextCall.toList := by
  rcases step_next h with ⟨hidle, rfl⟩ | ⟨a, rest, hpending, effect⟩
  · simp [State.nextCall, hidle]
  · simpa [State.nextCall, hpending] using effect.history_eq

/-- Everything the interaction of a step can be, with the pending action that makes it. -/
theorem State.mem_nextCall {s : State} {c : Interaction} (h : c ∈ s.nextCall.toList) :
    (∃ rest, s.pending = .send :: rest ∧ c = .send s.txData) ∨
    (∃ rest, s.pending = .recv :: rest ∧ c = .receive Config.rxTimeoutMs s.nextAnswer) ∨
    ∃ back ev rest, s.pending = .decodeReceived back :: rest ∧ s.received[back]? = some ev ∧
      c = .evaluate (s.receiveNumber back) ev := by
  obtain ⟨a, hhead, hcall⟩ := Option.bind_eq_some_iff.mp (Option.mem_toList.mp h)
  obtain ⟨rest, hpending⟩ := List.head?_eq_some_iff.mp hhead
  rcases State.callOf_eq_some hcall with ⟨rfl, hc⟩ | ⟨rfl, hc⟩ | ⟨back, ev, rfl, hev, hc⟩
  · exact .inl ⟨rest, hpending, hc⟩
  · exact .inr (.inl ⟨rest, hpending, hc⟩)
  · exact .inr (.inr ⟨back, ev, rest, hpending, hev, hc⟩)

/-! ### What never faults (R41, R170) -/

theorem runRequest_ne_fault (r : Request) (s : State) (f : Fault) : runRequest r s ≠ .fault f := by
  unfold runRequest
  split
  next i _ => simp [exec_eq]
  next => simp

theorem onReading_ne_fault (iface : Iface) (s : State) (f : Fault) : onReading iface s ≠ .fault f := by
  unfold onReading
  split
  next => exact runRequest_ne_fault _ _ _
  next => simp

/-- Only an evaluation reads the frame buffer, and an event drives the buffer its evaluation reads (`exec_eq`). -/
theorem runAction_ne_fault (a : Action) (s : State) (f : Fault) : runAction a s ≠ .fault f := by
  cases a with
  | invoke r => exact runRequest_ne_fault _ _ _
  | decodeReceived back =>
    simp only [runAction]
    split
    next ev _ => exact runRequest_ne_fault _ _ _
    next => simp
  | primaryUnitOfReading | secondaryUnitOfReading | renderReading => exact onReading_ne_fault _ _ _
  | collect =>
    simp only [runAction]
    split <;> simp
  | send | recv | newList | clockEdge => simp [runAction]

/-! ### The statements -/

/-- Settles O49: a step appends the interaction of the oldest pending action, and each kind of interaction has its own action. -/
theorem transportSeesProgramOrder : Obligations.TransportSeesProgramOrder := by
  intro s t h
  refine ⟨s.nextCall.toList, step_history h, Option.length_toList_le, fun frame hmem => ?_, fun ms answer hmem => ?_, fun n ev hmem => ?_⟩
  · obtain ⟨rest, hpending, -⟩ | ⟨_, _, ⟨⟩⟩ | ⟨_, _, _, _, _, ⟨⟩⟩ := State.mem_nextCall hmem
    exact ⟨rest, hpending⟩
  · obtain ⟨_, _, ⟨⟩⟩ | ⟨rest, hpending, -⟩ | ⟨_, _, _, _, _, ⟨⟩⟩ := State.mem_nextCall hmem
    exact ⟨rest, hpending⟩
  · obtain ⟨_, _, ⟨⟩⟩ | ⟨_, _, ⟨⟩⟩ | ⟨back, _, rest, hpending, hev, ⟨⟩⟩ := State.mem_nextCall hmem
    exact ⟨back, rest, hpending, hev, rfl⟩

/-- Settles O55: an idle block answers its own state, and no pending action faults. -/
theorem noStepFaults : Obligations.NoStepFaults := by
  intro s f
  cases hpending : s.pending with
  | nil => simp [step, runPending, hpending]
  | cons a rest => exact step_of_pending hpending ▸ runAction_ne_fault a _ f

end Sys2Proof.Machine
end

section
/-!
PROOFS. The decoder and the encoder are inverse to each other, interface by interface (30_encoding.md R55 to R71).
-/

namespace Sys2Proof

open Config

/-! ### The bytes of a number (R55) -/

/-- A byte sequence is the bytes of the number it spells. -/
theorem bytesOfNat_natOfBytes (bs : List Byte) : bytesOfNat bs.length (natOfBytes bs) = bs := by
  induction bs using List.reverseRecOn with
  | nil => rfl
  | append_singleton bs b ih =>
    have hb : b.toNat < 256 := b.isLt
    have hhigh : (256 * natOfBytes bs + b.toNat) / 256 = natOfBytes bs := by omega
    have hlow : BitVec.ofNat 8 (256 * natOfBytes bs + b.toNat) = b := BitVec.eq_of_toNat_eq (by rw [BitVec.toNat_ofNat]; omega)
    rw [List.length_append, List.length_singleton, natOfBytes_snoc, bytesOfNat, hhigh, hlow, ih]

/-! ### A record and its vector (R25, R71) -/

/-- The code of a two-valued field gives its string back, if the string is one of the two. -/
theorem textIf_beq_self {x t f : Text} (h : (x == t || x == f) = true) : textIf (x == t) t f = x := by
  simp only [Bool.or_eq_true, beq_iff_eq] at h
  obtain rfl | rfl := h
  · simp [textIf]
  · simp only [textIf, beq_iff_eq, ite_eq_right_iff]
    exact Eq.symm

/-- The code of `cmm_cfm` gives its string back, if the string is one of the three. -/
theorem cmmCfmOfCode_codes {x : Text} (h : (x == txtCFM || x == txtCMM || x == []) = true) :
    cmmCfmOfCode (x == txtCFM || x == txtCMM) (x == txtCFM) = some x := by
  simp only [Bool.or_eq_true, beq_iff_eq] at h
  obtain (rfl | rfl) | rfl := h <;> rfl

/-- Unpacking the vector of a record whose strings are of their sets gives the record back. -/
theorem unpackSettings_packSettings {r : SettingsFlags} (h : r.inSets = true) : unpackSettings (packSettings r) = some r := by
  simp only [SettingsFlags.inSets, Bool.and_eq_true] at h
  obtain ⟨⟨⟨⟨⟨⟨⟨⟨⟨⟨⟨⟨hmode, hdeg⟩, hmph⟩, hknot⟩, hftMin⟩, hkmh⟩, hmS⟩, hmax⟩, hmin⟩, havg⟩, htwoThird⟩, hcmmCfm⟩, hhold⟩ := h
  simp only [unpackSettings, packSettings, Machine.getLsbD_settingsVector, List.getD_cons_succ, List.getD_cons_zero, cmmCfmOfCode_codes hcmmCfm,
    Option.map_some, textIf_beq_self hmode, textIf_beq_self hdeg, textIf_beq_self hmph, textIf_beq_self hknot, textIf_beq_self hftMin,
    textIf_beq_self hkmh, textIf_beq_self hmS, textIf_beq_self hmax, textIf_beq_self hmin, textIf_beq_self havg, textIf_beq_self htwoThird,
    textIf_beq_self hhold]

/-- The two bytes of a record's vector decode to the record. -/
theorem decodeSettings_of_inSets {r : SettingsFlags} (h : r.inSets = true) : decodeSettings (settingsBytes (packSettings r)) = .ok r := by
  rw [decodeSettings_settingsBytes, unpackSettings_packSettings h]
  rfl

/-- Bytes that decode to a record are the two bytes of its vector. -/
theorem settingsBytes_of_decodeSettings {bs : List Byte} {r : SettingsFlags} (h : decodeSettings bs = .ok r) :
    settingsBytes (packSettings r) = bs := by
  unfold decodeSettings at h
  split at h
  next hi lo =>
    split at h
    next hlt =>
      split at h
      next hr =>
        cases h
        rw [packSettings_of_unpackSettings hr, settingsBytes, BitVec.toNat_ofNat, Nat.mod_eq_of_lt hlt]
        exact bytesOfNat_natOfBytes [hi, lo]
      next => cases h
    next => cases h
  next => cases h

/-- A reachable record holds strings of their sets (R117). -/
theorem SettingsFlags.inSets_of_reachable {r : SettingsFlags} (h : r.reachable = true) : r.inSets = true :=
  (Bool.and_eq_true_iff.mp h).1

/-! ### Each interface's decoder -/

/-- The commands of `CMD` frames (R64, R67). -/
theorem decodeCommand_eq_ok_iff (bs : List Byte) (i : Instr) :
    decodeCommand bs = .ok i ↔ (i = .readCurrent ∧ bs = readCurrentFrame) ∨ (i = .readRecordsStart ∧ bs = readRecordsStartFrame) := by
  have hne : readRecordsStartFrame ≠ readCurrentFrame := by decide
  unfold decodeCommand
  split
  next hcurrent => subst hcurrent; simp [eq_comm, hne.symm]
  next hcurrent =>
    split
    next hrecords => simp [hrecords, hne, eq_comm]
    next hrecords => simp [hcurrent, hrecords]

theorem decodeTriplet_eq_ok_iff (bs : List Byte) (i : Instr) :
    decodeTriplet bs = .ok i ↔ ∃ b0 b1 b2, bs = [b0, b1, b2] ∧ i = .decodeValue24 b0 b1 b2 := by
  constructor
  · intro h
    unfold decodeTriplet at h
    split at h
    next b0 b1 b2 => exact ⟨b0, b1, b2, rfl, (Except.ok.inj h).symm⟩
    next => cases h
  · rintro ⟨b0, b1, b2, rfl, rfl⟩
    rfl

theorem decodeTriplet_of_length_ne {bs : List Byte} (h : bs.length ≠ 3) : decodeTriplet bs = .error .notATriplet := by
  unfold decodeTriplet
  split
  next => exact absurd rfl h
  next => rfl

theorem decodeFlagPair_eq_ok_iff (bs : List Byte) (i : Instr) :
    decodeFlagPair bs = .ok i ↔ ∃ b c, bs = [b, c] ∧ i = .extractFlags b c := by
  constructor
  · intro h
    unfold decodeFlagPair at h
    split at h
    next b c => exact ⟨b, c, rfl, (Except.ok.inj h).symm⟩
    next => cases h
  · rintro ⟨b, c, rfl, rfl⟩
    rfl

theorem decodeFlagPair_of_length_ne {bs : List Byte} (h : bs.length ≠ 2) : decodeFlagPair bs = .error .notAFlagPair := by
  unfold decodeFlagPair
  split
  next => exact absurd rfl h
  next => rfl

/-- Everything a `SETTINGS` interface can decode to: the host function of the record its bytes carry. -/
theorem decodeSettings_map_eq_ok {bs : List Byte} {hostFunction : SettingsFlags → Instr} {i : Instr}
    (h : (decodeSettings bs).map hostFunction = .ok i) : ∃ r, settingsBytes (packSettings r) = bs ∧ hostFunction r = i := by
  cases hr : decodeSettings bs with
  | error e => rw [hr] at h; cases h
  | ok r =>
    rw [hr] at h
    exact ⟨r, settingsBytes_of_decodeSettings hr, Except.ok.inj h⟩

/-! ### The statements -/

/-- Settles O1: the interface names the operation, and a settings vector carries the record of a host function. -/
theorem decodeOfEncodeIsTheInstruction : Obligations.DecodeOfEncodeIsTheInstruction := by
  intro i hwf
  have decodeRecord : ∀ {r : SettingsFlags}, r.reachable = true → decodeSettings (settingsBytes (packSettings r)) = .ok r :=
    fun hr => decodeSettings_of_inSets (SettingsFlags.inSets_of_reachable hr)
  cases i with
  | readCurrent => exact (decodeCommand_eq_ok_iff _ _).mpr (.inl ⟨rfl, rfl⟩)
  | readRecordsStart => exact (decodeCommand_eq_ok_iff _ _).mpr (.inr ⟨rfl, rfl⟩)
  | decodeFrame ev => cases ev <;> rfl
  | decodeValue24 b0 b1 b2 => rfl
  | extractFlags b c => rfl
  | primaryUnit r => exact congrArg (·.map Instr.primaryUnit) (decodeRecord hwf)
  | secondaryUnit r => exact congrArg (·.map Instr.secondaryUnit) (decodeRecord hwf)
  | render r w => exact congrArg (·.map (Instr.render · w)) (decodeRecord hwf)

/-- Settles O2, interface by interface: each has one operation, and its bytes are those of the operation's format. -/
theorem encodeOfDecodeIsTheRequest : Obligations.EncodeOfDecodeIsTheRequest := by
  rintro ⟨iface, bs⟩ i hdecode htimeout
  cases iface with
  | cmd =>
    obtain ⟨rfl, rfl⟩ | ⟨rfl, rfl⟩ := (decodeCommand_eq_ok_iff bs i).mp hdecode <;> rfl
  | rx => cases hdecode; rfl
  | rxTimeout =>
    cases hdecode
    obtain rfl : bs = [] := htimeout rfl
    rfl
  | decfp24 =>
    obtain ⟨b0, b1, b2, rfl, rfl⟩ := (decodeTriplet_eq_ok_iff bs i).mp hdecode
    rfl
  | flagx =>
    obtain ⟨b, c, rfl, rfl⟩ := (decodeFlagPair_eq_ok_iff bs i).mp hdecode
    rfl
  | primaryUnit | secondaryUnit | render =>
    obtain ⟨r, rfl, rfl⟩ := decodeSettings_map_eq_ok hdecode
    rfl

/-- Settles O3: each word is computed, its width choosing the interface (log 4). -/
theorem tableWordsDecode : Obligations.TableWordsDecode :=
  ⟨by decide, by decide, by decide, by decide, by decide⟩

/-- Settles O4: `decodeCommand_eq_ok_iff` with the two frames written out. -/
theorem onlyTheTwoCommandFramesDecode : Obligations.OnlyTheTwoCommandFramesDecode := decodeCommand_eq_ok_iff

/-- Settles O5. -/
theorem everyDataPatternDecodes : Obligations.EveryDataPatternDecodes :=
  ⟨fun _ => rfl, fun _ _ => rfl, fun _ _ _ => rfl, fun _ => decodeFlagPair_of_length_ne, fun _ => decodeTriplet_of_length_ne⟩

end Sys2Proof
end

section
/-!
PROOFS. What a step does with a request and with a received event (30_encoding.md R64, R69), and the bits of a frame that no part of its
reading depends on (R65).
-/

namespace Sys2Proof.Machine

open Config

/-! ### Requests and received events (R67, R69) -/

/-- A request that denotes no operation is refused with the decoder's reason. -/
theorem runRequest_of_decode_error {r : Request} {e : Reject} (h : decode r = .error e) (s : State) :
    runRequest r s = .refused (.undecodable e) := by
  simp only [runRequest, h]

/-- Decoding an event the caller holds records the evaluation and runs `DECODE_FRAME` on the event. -/
theorem runAction_decodeReceived {s : State} {back : Nat} {ev : RxEvent} (h : s.received[back]? = some ev) :
    runAction (.decodeReceived back) s = exec (.decodeFrame ev) (s.record (.evaluate (s.receiveNumber back) ev)) := by
  simp only [runAction, h, runRequest_requestOfEvent]

theorem runAction_decodeReceived_of_none {s : State} {back : Nat} (h : s.received[back]? = none) :
    runAction (.decodeReceived back) s = .refused .nothingReceived := by
  simp only [runAction, h]

/-! ### The unread bits (R65) -/

/-- A mask that lies inside `kept` tests only the bits in `kept`. -/
theorem testMask_congr {mask kept v v' : Byte} (hmask : mask &&& kept = mask) (h : v &&& kept = v' &&& kept) :
    testMask mask v = testMask mask v' := by
  have read : ∀ u : Byte, mask &&& u = mask &&& (u &&& kept) := fun u => by
    rw [BitVec.and_comm u, ← BitVec.and_assoc, hmask]
  rw [testMask, testMask, read v, read v', h]

theorem fieldUnit_fieldMode (mask b : Byte) (t : Text) :
    fieldUnit (fieldMode b) mask b t = textIf (testMask mask b && testMask 0x80#8 b) t [] := by
  rw [testMask_80, ← fieldMode_beq_VEL]
  rfl

theorem fieldCmmCfm_fieldMode (b c : Byte) :
    fieldCmmCfm (fieldMode b) c = textIf (testMask 0x80#8 b) [] (textIf (testMask 0x08#8 c) txtCFM txtCMM) := by
  rw [testMask_80, ← fieldMode_beq_VEL]
  rfl

/-- Each field as a choice between its strings by the masks it tests (R100, R115). -/
theorem extractFlags_eq_textIf (b c : Byte) :
    extractFlags b c =
      { mode := textIf (testMask 0x80#8 b) txtVEL txtFLOW
        deg := textIf (testMask 0x20#8 b) txtC txtF
        mph := textIf (testMask 0x10#8 b && testMask 0x80#8 b) txtMph []
        knot := textIf (testMask 0x08#8 b && testMask 0x80#8 b) txtKnot []
        ftMin := textIf (testMask 0x04#8 b && testMask 0x80#8 b) txtFtMin []
        kmh := textIf (testMask 0x02#8 b && testMask 0x80#8 b) txtKmh []
        mS := textIf (testMask 0x01#8 b && testMask 0x80#8 b) txtMS []
        max := textIf (testMask 0x80#8 c) txtMax []
        min := textIf (testMask 0x40#8 c) txtMin []
        avg := textIf (testMask 0x20#8 c) txtAvg []
        twoThird := textIf (testMask 0x10#8 c) txtTwoThird []
        cmmCfm := textIf (testMask 0x80#8 b) [] (textIf (testMask 0x08#8 c) txtCFM txtCMM)
        hold := textIf (testMask 0x02#8 c) txtHold [] } := by
  rw [← fieldCmmCfm_fieldMode]
  iterate 5 rw [← fieldUnit_fieldMode]
  rfl

/-- The masks of R101 to R113 do not hold bit 6 of the first byte or bits 2 and 0 of the second. -/
theorem extractFlags_congr {b b' c c' : Byte} (hb : b &&& 0xBF#8 = b' &&& 0xBF#8) (hc : c &&& 0xFA#8 = c' &&& 0xFA#8) :
    extractFlags b c = extractFlags b' c' := by
  have first : ∀ mask : Byte, mask &&& 0xBF#8 = mask → testMask mask b = testMask mask b' := fun _ hmask => testMask_congr hmask hb
  have second : ∀ mask : Byte, mask &&& 0xFA#8 = mask → testMask mask c = testMask mask c' := fun _ hmask => testMask_congr hmask hc
  rw [extractFlags_eq_textIf, extractFlags_eq_textIf,
    first 0x80#8 (by decide), first 0x20#8 (by decide), first 0x10#8 (by decide), first 0x08#8 (by decide), first 0x04#8 (by decide),
    first 0x02#8 (by decide), first 0x01#8 (by decide), second 0x80#8 (by decide), second 0x40#8 (by decide), second 0x20#8 (by decide),
    second 0x10#8 (by decide), second 0x08#8 (by decide), second 0x02#8 (by decide)]

/-! ### The outputs of a reading (R30, R130) -/

theorem outcomeOf_of_length {frame : List Byte} (hlen : frame.length = frameLen) :
    outcomeOf (.bytes frame) = .reading (readingOfFrame frame) := if_pos hlen

theorem outcomeOf_of_length_ne {bs : List Byte} (hlen : bs.length ≠ frameLen) : outcomeOf (.bytes bs) = .error .badLength := if_neg hlen

/-- The outputs after `DECODE_FRAME` on a frame of the right length are those of its reading. -/
theorem State.afterInstr_decodeFrame_out (s : State) {frame : List Byte} (hlen : frame.length = frameLen) :
    (s.afterInstr (.decodeFrame (.bytes frame))).out = Outputs.ofReading (readingOfFrame frame) := by
  rw [State.afterInstr, outcomeOf_of_length hlen, State.driveOutcome_reading, State.driveReading_out]

/-- Two frames of the same reading leave the same outputs, with `ok = 1`. -/
theorem exec_decodeFrame_outputs_eq {frame frame' : List Byte} (s : State) (hlen : frame.length = frameLen)
    (hlen' : frame'.length = frameLen) (hreading : readingOfFrame frame = readingOfFrame frame') : ∃ t u,
      exec (.decodeFrame (.bytes frame)) s = .next t ∧ exec (.decodeFrame (.bytes frame')) s = .next u ∧ t.out.ok = true ∧ t.out = u.out := by
  have hout := s.afterInstr_decodeFrame_out hlen
  have hout' := s.afterInstr_decodeFrame_out hlen'
  exact ⟨_, _, exec_eq _ s, exec_eq _ s, by rw [hout, Outputs.ofReading_ok], by rw [hout, hout', hreading]⟩

/-! ### The statements -/

/-- Settles O8. -/
theorem stepRefusesAnUndecodableRequest : Obligations.StepRefusesAnUndecodableRequest := by
  intro s r rest e hpending hdecode
  calc step s = runRequest r (s.withPending rest) := step_of_pending hpending
    _ = .refused (.undecodable e) := runRequest_of_decode_error hdecode _

/-- Settles O9: the script left behind is no part of what the caller holds. -/
theorem stepDecodesTheReceivedEvent : Obligations.StepDecodesTheReceivedEvent := by
  intro s back rest hpending
  have hstep : step s = runAction (.decodeReceived back) (s.withPending rest) := step_of_pending hpending
  exact ⟨fun ev hev => hstep.trans (runAction_decodeReceived hev), fun hnone => hstep.trans (runAction_decodeReceived_of_none hnone)⟩

/-- Settles O54: `exec_eq` names the state each operation leaves. -/
theorem everyInstructionCompletes : Obligations.EveryInstructionCompletes := fun i s => ⟨s.afterInstr i, exec_eq i s⟩

/-- Settles O25: the two frames have the same settings record, and the same bytes of either value. -/
theorem unreadBitsDoNotMatter : Obligations.UnreadBitsDoNotMatter := by
  intro b b' c c' f2 f3 f4 f5 f6 f7 s hb hc
  have hreading : readingOf b c f2 f3 f4 f5 f6 f7 = readingOf b' c' f2 f3 f4 f5 f6 f7 := by
    rw [readingOf, readingOf, extractFlags_congr hb hc]
  exact exec_decodeFrame_outputs_eq s rfl rfl hreading

end Sys2Proof.Machine
end

section
/-!
PROOFS. The outcome that stands on the outputs after an evaluation (10_state.md R28, R30), and what the round of `READ_ALL` does with it
(30_encoding.md R70).
-/

namespace Sys2Proof.Machine

open Config

/-! ### A reading read back from its signals (R24 to R26, R30) -/

theorem beq_textIf (code : Bool) (t f : Text) : (textIf code t f == t || textIf code t f == f) = true := by
  cases code <;> simp [textIf]

/-- The strings the block produces are of their sets (R100). -/
theorem extractFlags_inSets (b c : Byte) : (extractFlags b c).inSets = true := by
  have hcmmCfm : ∀ vel cfm : Bool, (textIf vel [] (textIf cfm txtCFM txtCMM) == txtCFM || textIf vel [] (textIf cfm txtCFM txtCMM) == txtCMM ||
      textIf vel [] (textIf cfm txtCFM txtCMM) == []) = true := by decide
  simp only [extractFlags_eq_textIf, SettingsFlags.inSets, beq_textIf, hcmmCfm, Bool.and_self]

theorem sext8_eq_toInt (v : Byte) : sext8 v = v.toInt := by
  rw [sext8, BitVec.toInt_eq_toNat_cond]
  split <;> split <;> omega

/-- The value a consumer reads from the signals of a triplet's value is that value (R30, R31). -/
theorem valueOfSignals_decodeValue24 (b0 b1 b2 : Byte) :
    valueOfSignals (mantBits (decodeValue24 b0 b1 b2)) (expBits (decodeValue24 b0 b1 b2)) = decodeValue24 b0 b1 b2 := by
  have hm : mantissa b0 b1 < 2 ^ 16 := by
    have h0 : b0.toNat < 256 := b0.isLt
    have h1 : b1.toNat < 256 := b1.isLt
    rw [mantissa]
    omega
  simp only [valueOfSignals, mantBits, expBits, decodeValue24, sext8_eq_toInt, BitVec.ofInt_toInt, BitVec.toNat_ofNat, Nat.mod_eq_of_lt hm]

/-- The outputs of a frame's reading show that reading. -/
theorem Outputs.outcome_ofReading (frame : List Byte) :
    (Outputs.ofReading (readingOfFrame frame)).outcome = some (.reading (readingOfFrame frame)) := by
  simp [Outputs.outcome, Outputs.reading, readingOfFrame, readingOf, unpackSettings_packSettings (extractFlags_inSets _ _),
    valueOfSignals_decodeValue24]

/-- After an evaluation the outputs show the outcome of its event (R130). -/
theorem State.driveOutcome_outcome (s : State) (ev : RxEvent) : (s.driveOutcome (outcomeOf ev)).out.outcome = some (outcomeOf ev) := by
  cases ev with
  | timeout => rfl
  | bytes bs =>
    by_cases hlen : bs.length = frameLen
    · rw [outcomeOf_of_length hlen]
      exact Outputs.outcome_ofReading bs
    · rw [outcomeOf_of_length_ne hlen]
      rfl

theorem outcomeOf_bytes_ne_endOfStream (bs : List Byte) : outcomeOf (.bytes bs) ≠ .endOfStream := by
  by_cases hlen : bs.length = frameLen
  · simp [outcomeOf_of_length hlen]
  · simp [outcomeOf_of_length_ne hlen]

/-! ### The outcome on sound outputs -/

theorem Outputs.outcome_of_errBadLength {o : Outputs} (hok : o.ok = false) (hbad : o.errBadLength = true) :
    o.outcome = some (.error .badLength) := by
  simp [Outputs.outcome, hok, hbad]

/-- At most one flag of sound outputs is 1, so each flag stands for its own outcome. -/
theorem Outputs.Sound.ok_eq_false {o : Outputs} (h : o.Sound) (hother : o.errBadLength = true ∨ o.endOfStream = true) : o.ok = false := by
  have exclusive : ∀ ok bad eos : Bool, [ok, bad, eos].count true ≤ 1 → bad = true ∨ eos = true → ok = false := by decide
  exact exclusive _ _ _ h.exclusive hother

theorem Outputs.Sound.errBadLength_eq_false {o : Outputs} (h : o.Sound) (heos : o.endOfStream = true) : o.errBadLength = false := by
  have exclusive : ∀ ok bad eos : Bool, [ok, bad, eos].count true ≤ 1 → eos = true → bad = false := by decide
  exact exclusive _ _ _ h.exclusive heos

theorem Outputs.Sound.outcome_of_endOfStream {o : Outputs} (h : o.Sound) (heos : o.endOfStream = true) : o.outcome = some .endOfStream := by
  simp [Outputs.outcome, h.ok_eq_false (.inr heos), h.errBadLength_eq_false heos, heos]

/-- Outputs with a reading or an error show an outcome that is no end of a stream. -/
theorem Outputs.Sound.outcome_ne_endOfStream {o : Outputs} (h : o.Sound) (hflag : o.ok = true ∨ o.errBadLength = true) :
    ∃ outcome, o.outcome = some outcome ∧ outcome ≠ .endOfStream := by
  rcases hflag with hok | hbad
  · obtain ⟨frame, -, hframe⟩ := h.data hok
    exact ⟨.reading (readingOfFrame frame), hframe ▸ Outputs.outcome_ofReading frame, DecodeOutcome.noConfusion⟩
  · exact ⟨.error .badLength, Outputs.outcome_of_errBadLength (h.ok_eq_false (.inl hbad)) hbad, DecodeOutcome.noConfusion⟩

/-- Only the end of the stream is shown as its end. -/
theorem Outputs.endOfStream_of_outcome {o : Outputs} (h : o.outcome = some .endOfStream) : o.endOfStream = true := by
  unfold Outputs.outcome at h
  split at h
  next => obtain ⟨_, -, ⟨⟩⟩ := Option.map_eq_some_iff.mp h
  next =>
    split at h
    next => cases h
    next =>
      split at h
      next heos => exact heos
      next => cases h

/-! ### The end of a round (R70) -/

theorem runAction_collect_endOfStream {s : State} (h : s.visibleOutputs.outcome = some .endOfStream) : runAction .collect s = .next s := by
  simp only [runAction, h]

theorem runAction_collect_goesRound {s : State} {o : DecodeOutcome} (h : s.visibleOutputs.outcome = some o) (hne : o ≠ .endOfStream) :
    runAction .collect s = .next (s.collectOutcome o) := by
  cases o with
  | endOfStream => exact absurd rfl hne
  | reading r => simp only [runAction, h]
  | error e => simp only [runAction, h]

/-- Settles O53: sound outputs show the outcome of their flag. -/
theorem collectGoesRoundUntilEndOfStream : Obligations.CollectGoesRoundUntilEndOfStream := by
  intro s rest hsound hpending
  have hstep : step s = runAction .collect (s.withPending rest) := step_of_pending hpending
  refine ⟨fun heos => hstep.trans (runAction_collect_endOfStream (hsound.outcome_of_endOfStream heos)), fun hflag => ?_⟩
  obtain ⟨o, ho, hne⟩ := hsound.outcome_ne_endOfStream hflag
  exact ⟨o, ho, hne, hstep.trans (runAction_collect_goesRound ho hne)⟩

end Sys2Proof.Machine
end

section
/-!
PROOFS. `READ_ALL` (30_encoding.md R70): what its beginning and its rounds do to the caller's side and to the caller's duties, and that it
gathers the stream.
-/

namespace Sys2Proof.Machine

open Config

/-! ### Runs -/

/-- A run begins with a step. -/
theorem core_run_succ {s t : State} (h : step s = .next t) (n : Nat) : core.run (n + 1) s = core.run n t := by
  have hcore : core.step s = .next t := h
  simp only [Host.Core.run, hcore]

/-! ### What an evaluation leaves of the caller's and the environment's side (R136, log 17) -/

/-- Two states agree on the caller's and the environment's side of a run. -/
structure State.SameCallerSide (s t : State) : Prop where
  outRegPresent : t.outRegPresent = s.outRegPresent
  pending : t.pending = s.pending
  received : t.received = s.received
  answers : t.answers = s.answers
  history : t.history = s.history
  collected : t.collected = s.collected

theorem State.SameCallerSide.trans {s t u : State} (h : s.SameCallerSide t) (h' : t.SameCallerSide u) : s.SameCallerSide u where
  outRegPresent := h'.outRegPresent.trans h.outRegPresent
  pending := h'.pending.trans h.pending
  received := h'.received.trans h.received
  answers := h'.answers.trans h.answers
  history := h'.history.trans h.history
  collected := h'.collected.trans h.collected

theorem State.sameCallerSide_driveEvent (s : State) (ev : RxEvent) : s.SameCallerSide (s.driveEvent ev) := by
  cases ev <;> exact ⟨rfl, rfl, rfl, rfl, rfl, rfl⟩

theorem State.sameCallerSide_driveOutcome (s : State) (o : DecodeOutcome) : s.SameCallerSide (s.driveOutcome o) := by
  cases o with
  | reading r => exact ⟨rfl, rfl, rfl, rfl, rfl, rfl⟩
  | error e => cases e; exact ⟨rfl, rfl, rfl, rfl, rfl, rfl⟩
  | endOfStream => exact ⟨rfl, rfl, rfl, rfl, rfl, rfl⟩

theorem State.sameCallerSide_clockEdge (s : State) (rst : Bool) : s.SameCallerSide (s.clockEdge rst) := by
  unfold State.clockEdge
  split
  · split <;> exact ⟨rfl, rfl, rfl, rfl, rfl, rfl⟩
  · exact ⟨rfl, rfl, rfl, rfl, rfl, rfl⟩

theorem State.sameCallerSide_decodeFrame (s : State) (ev : RxEvent) : s.SameCallerSide (s.afterInstr (.decodeFrame ev)) :=
  (s.sameCallerSide_driveEvent ev).trans (State.sameCallerSide_driveOutcome _ _)

/-! ### The outputs a caller waits for (R196) -/

/-- After the wait the caller sees the combinational outputs, with `OUT_REG` 0 or 1. -/
theorem State.visibleOutputs_clockEdge (s : State) : (s.clockEdge false).visibleOutputs = s.out := by
  cases h : s.outRegPresent with
  | false => rw [State.clockEdge_absent s false h, State.visibleOutputs_absent s h]
  | true =>
    rw [State.clockEdge_latch s h, State.visibleOutputs_present s.latchOutReg h]
    rfl

theorem State.withPending_pending_self (s : State) : s.withPending s.pending = s := rfl

/-- The wait is a clock edge, which with `OUT_REG = 0` is none and changes nothing. -/
theorem run_awaitOutputs {s : State} {rest : List Action} (h : s.pending = awaitOutputs s.outRegPresent ++ rest) (n : Nat) :
    core.run ((awaitOutputs s.outRegPresent).length + n) s = core.run n ((s.withPending rest).clockEdge false) := by
  cases hreg : s.outRegPresent with
  | false =>
    have hrest : s.withPending rest = s := by
      rw [← s.withPending_pending_self, h, hreg]
      rfl
    rw [hrest, State.clockEdge_absent s false hreg, awaitOutputs, if_neg Bool.false_ne_true, List.length_nil, Nat.zero_add]
  | true =>
    rw [hreg] at h
    rw [awaitOutputs, if_pos rfl, List.length_singleton, Nat.add_comm]
    exact core_run_succ (step_of_pending h) n

/-! ### A round up to its end -/

/-- The evaluation of the event received last; `step_decodeReceived_last` ties it to the step. -/
def State.evaluateLast (s : State) (ev : RxEvent) : State :=
  (s.record (.evaluate (s.receiveNumber 0) ev)).afterInstr (.decodeFrame ev)

theorem State.sameCallerSide_evaluateLast (s : State) (ev : RxEvent) :
    (s.record (.evaluate (s.receiveNumber 0) ev)).SameCallerSide (s.evaluateLast ev) :=
  State.sameCallerSide_decodeFrame _ ev

theorem State.evaluateLast_outcome (s : State) (ev : RxEvent) : (s.evaluateLast ev).out.outcome = some (outcomeOf ev) :=
  State.driveOutcome_outcome _ ev

theorem step_decodeReceived_last {s : State} {rest : List Action} {ev : RxEvent} (h : s.pending = .decodeReceived 0 :: rest)
    (hev : s.received[0]? = some ev) : step s = .next ((s.withPending rest).evaluateLast ev) :=
  calc step s = runAction (.decodeReceived 0) (s.withPending rest) := step_of_pending h
    _ = exec (.decodeFrame ev) ((s.withPending rest).record (.evaluate (s.receiveNumber 0) ev)) := runAction_decodeReceived hev
    _ = .next ((s.withPending rest).evaluateLast ev) := exec_eq _ _

/-- What a receive of `ev`, its evaluation and the wait for the outputs do, with the script they leave; `run_readRound` ties it to the
round. -/
structure State.Evaluated (s t : State) (ev : RxEvent) (left : List Action) : Prop where
  outRegPresent : t.outRegPresent = s.outRegPresent
  pending : t.pending = left
  received : t.received = ev :: s.received
  answers : t.answers = s.answers.tail
  history : t.history = s.history ++ [.receive rxTimeoutMs ev] ++ [.evaluate s.received.length ev]
  collected : t.collected = s.collected
  outcome : t.visibleOutputs.outcome = some (outcomeOf ev)

/-- The state after a receive and the evaluation of its event, with the script left then. -/
def State.receiveAndEvaluate (s : State) (left : List Action) : State := (s.withPending left).receiveEvent.evaluateLast s.nextAnswer

/-- Nothing but the receive and the record of the evaluation changes the caller's and the environment's side. -/
theorem State.receiveAndEvaluate_sameCallerSide (s : State) (left : List Action) :
    ((s.withPending left).receiveEvent.record (.evaluate s.received.length s.nextAnswer)).SameCallerSide (s.receiveAndEvaluate left) :=
  State.sameCallerSide_evaluateLast _ _

theorem State.evaluated_clockEdge (s : State) (script left : List Action) :
    s.Evaluated (((s.receiveAndEvaluate script).withPending left).clockEdge false) s.nextAnswer left := by
  have hside := s.receiveAndEvaluate_sameCallerSide script
  have hedge := ((s.receiveAndEvaluate script).withPending left).sameCallerSide_clockEdge false
  refine ⟨hedge.outRegPresent.trans hside.outRegPresent, hedge.pending, hedge.received.trans hside.received,
    hedge.answers.trans hside.answers, hedge.history.trans hside.history, hedge.collected.trans hside.collected, ?_⟩
  rw [State.visibleOutputs_clockEdge]
  exact State.evaluateLast_outcome _ s.nextAnswer

/-- A round receives the next answer and evaluates it, and then comes to its end. -/
theorem run_readRound {s : State} {rest : List Action} (h : s.pending = readRound s.outRegPresent ++ rest) :
    ∃ t, s.Evaluated t s.nextAnswer (.collect :: rest) ∧
      ∀ n, core.run ((readRound s.outRegPresent).length + n) s = core.run (n + 1) t := by
  let left : List Action := awaitOutputs s.outRegPresent ++ .collect :: rest
  have hpending : s.pending = .recv :: .decodeReceived 0 :: left := by simp [h, readRound, left]
  have hside := s.receiveAndEvaluate_sameCallerSide left
  have hrecv : step s = .next (s.withPending (.decodeReceived 0 :: left)).receiveEvent := step_of_pending hpending
  have hdecode : step (s.withPending (.decodeReceived 0 :: left)).receiveEvent = .next (s.receiveAndEvaluate left) :=
    step_decodeReceived_last rfl rfl
  have hreg : (s.receiveAndEvaluate left).outRegPresent = s.outRegPresent := hside.outRegPresent
  have hawait : (s.receiveAndEvaluate left).pending = awaitOutputs (s.receiveAndEvaluate left).outRegPresent ++ .collect :: rest := by
    rw [hreg]
    exact hside.pending
  refine ⟨_, s.evaluated_clockEdge left (.collect :: rest), fun n => ?_⟩
  have hlength : (readRound s.outRegPresent).length + n = (awaitOutputs s.outRegPresent).length + (n + 1) + 1 + 1 := by
    simp [readRound]
    omega
  rw [hlength, core_run_succ hrecv, core_run_succ hdecode, ← hreg, run_awaitOutputs hawait]

/-! ### The caller's phase along the stream (R200, R208) -/

/-- Evaluating an event that no stream forbids pays for it. -/
theorem CallerPhase.afterEvaluate_of_forbids_eq_false {p : CallerPhase} {receive : Nat} (ev : RxEvent)
    (h : ∀ st ∈ p.streams, st.forbids receive = false) :
    p.afterEvaluate receive ev = some { p with streams := p.streams.map (·.afterEvaluate receive ev) } :=
  if_neg (by simpa using h)

/-- A stream of which the events `first` to `first + done - 1` have been received and evaluated. -/
def StreamPhase.gathered (first done : Nat) (running lastWasBad : Bool) : StreamPhase :=
  { running := running, owed := [], passed := List.range' first done, lastWasBad := lastWasBad }

/-- The next event of such a stream has not been evaluated yet. -/
theorem StreamPhase.gathered_forbids (first done : Nat) (lastWasBad : Bool) (ev : RxEvent) :
    ((gathered first done true lastWasBad).afterReceive (first + done) ev).forbids (first + done) = false := by
  simp [gathered, afterReceive, forbids]

/-- A receive in such a stream and the evaluation of its event. -/
theorem StreamPhase.gathered_afterEvaluate (first done : Nat) (lastWasBad : Bool) (ev : RxEvent) :
    ((gathered first done true lastWasBad).afterReceive (first + done) ev).afterEvaluate (first + done) ev =
      gathered first (done + 1) (decide (ev ≠ .timeout)) (decide (outcomeOf ev = .error .badLength)) := by
  simp [gathered, afterReceive, afterEvaluate, List.range'_1_concat]

/-- The phase while `READ_ALL` gathers such a stream, the ones before it being `past`. -/
def CallerPhase.gathering (first done : Nat) (running lastWasBad : Bool) (past : List StreamPhase) : CallerPhase :=
  { commandOpen := false, receives := first + done, streams := .gathered first done running lastWasBad :: past }

/-- A receive and the evaluation of its event, which is no event of an earlier stream. -/
theorem CallerPhase.gathering_afterEvaluate {first : Nat} {past : List StreamPhase} (hpast : ∀ st ∈ past, ∀ n ∈ st.events, n < first)
    (done : Nat) (lastWasBad : Bool) (ev : RxEvent) :
    ((gathering first done true lastWasBad past).afterReceive ev).afterEvaluate (first + done) ev =
      some (gathering first (done + 1) (decide (ev ≠ .timeout)) (decide (outcomeOf ev = .error .badLength)) past) := by
  have hnotMem : ∀ st ∈ past, first + done ∉ st.events := fun st hst hmem => absurd (hpast st hst _ hmem) (by omega)
  have hforbids : ∀ st ∈ past, st.forbids (first + done) = false := fun st hst =>
    Bool.eq_false_iff.mpr fun h => hnotMem st hst (StreamPhase.mem_events_of_forbids h)
  have hunchanged : past.map (·.afterEvaluate (first + done) ev) = past :=
    (List.map_congr_left fun st hst => StreamPhase.afterEvaluate_of_notMem ev (hnotMem st hst)).trans (List.map_id' past)
  have hallowed : ∀ st ∈ ((gathering first done true lastWasBad past).afterReceive ev).streams, st.forbids (first + done) = false :=
    List.forall_mem_cons.mpr ⟨StreamPhase.gathered_forbids first done lastWasBad ev, hforbids⟩
  rw [CallerPhase.afterEvaluate_of_forbids_eq_false ev hallowed]
  simp only [gathering, CallerPhase.afterReceive, List.map_cons, hunchanged, StreamPhase.gathered_afterEvaluate, Nat.add_assoc]

/-- A round moves the phase on by its receive and its evaluation. -/
theorem State.Evaluated.callerPhase {s t : State} {ev : RxEvent} {left : List Action} (h : s.Evaluated t ev left) :
    t.callerPhase = s.callerPhase.bind fun p => (p.afterReceive ev).afterEvaluate s.received.length ev := by
  simp [State.callerPhase, h.history, CallerPhase.after, List.foldlM_append]

/-- Between commands, with every stream settled, `READ_RECORDS_START` begins one. -/
theorem CallerPhase.afterSend_readRecordsStart {p : CallerPhase} (hopen : p.commandOpen = false) (hsettled : p.settled = true) :
    p.afterSend (commandWord true) = some (gathering p.receives 0 true false p.streams) := by
  have hstreaming : p.streaming = false := by
    unfold CallerPhase.streaming
    split
    next => rfl
    next latest past hstreams =>
      have hlatest : latest.settled = true := List.all_eq_true.mp hsettled latest (hstreams ▸ List.mem_cons_self)
      simpa using (Bool.and_eq_true_iff.mp hlatest).1
  simp [CallerPhase.afterSend, hopen, hstreaming, commandWord, gathering, StreamPhase.gathered, StreamPhase.begun]

/-- A caller that leaves settled streams only keeps its duties, whatever its policy. -/
theorem State.dutiesKept_of_settled {s : State} {p : CallerPhase} (abort : Bool) (h : s.callerPhase = some p) (hsettled : p.settled = true) :
    s.DutiesKept abort :=
  ⟨p, h, fun _ => List.all_eq_true.mpr fun st hst => by
    rw [StreamPhase.mayLeave, List.all_eq_true.mp hsettled st hst, Bool.true_or]⟩

/-! ### The rounds of `READ_ALL` -/

/-- At the beginning of a round: what `READ_ALL` has gathered since the receive numbered `first`, and that the caller has done its duty
by each event so far. -/
structure State.Gathering (s : State) (first : Nat) (past : List StreamPhase) (outcomes : List DecodeOutcome) : Prop where
  pending : s.pending = readRound s.outRegPresent
  phase : ∃ lastWasBad, s.callerPhase = some (.gathering first outcomes.length true lastWasBad past)
  received : s.received.length = first + outcomes.length
  collected : s.collected = outcomes

section
variable {s t : State} {first : Nat} {past : List StreamPhase} {outcomes : List DecodeOutcome} {ev : RxEvent} {left : List Action}

theorem State.Gathering.callerPhase_of_evaluated (h : s.Gathering first past outcomes) (hpast : ∀ st ∈ past, ∀ n ∈ st.events, n < first)
    (hround : s.Evaluated t ev left) : t.callerPhase =
      some (.gathering first (outcomes.length + 1) (decide (ev ≠ .timeout)) (decide (outcomeOf ev = .error .badLength)) past) := by
  obtain ⟨lastWasBad, hphase⟩ := h.phase
  rw [hround.callerPhase, hphase, h.received]
  exact CallerPhase.gathering_afterEvaluate hpast _ _ _

/-- A round up to its end, with the answer it takes. -/
theorem State.Gathering.run_round (h : s.Gathering first past outcomes) {later : List RxEvent} (hanswers : s.answers = ev :: later) :
    ∃ t, s.Evaluated t ev [.collect] ∧ ∀ n, core.run ((readRound s.outRegPresent).length + n) s = core.run (n + 1) t := by
  have hnext : s.nextAnswer = ev := by rw [State.nextAnswer, hanswers, List.headD_cons]
  exact hnext ▸ run_readRound (h.pending.trans (List.append_nil _).symm)

/-- A byte sequence received: its outcome is appended and the next round begins. -/
theorem State.Gathering.run_bytes (h : s.Gathering first past outcomes) (hpast : ∀ st ∈ past, ∀ n ∈ st.events, n < first) {bs : List Byte}
    {later : List RxEvent} (hanswers : s.answers = .bytes bs :: later) :
    ∃ t : State, t.Gathering first past (outcomes ++ [outcomeOf (.bytes bs)]) ∧ t.answers = later ∧ t.outRegPresent = s.outRegPresent ∧
      ∀ n, core.run ((readRound s.outRegPresent).length + n) s = core.run n t := by
  obtain ⟨u, hround, hrun⟩ := h.run_round hanswers
  have hstep : step u = .next ((u.withPending []).collectOutcome (outcomeOf (.bytes bs))) :=
    (step_of_pending hround.pending).trans (runAction_collect_goesRound hround.outcome (outcomeOf_bytes_ne_endOfStream bs))
  have hgathering : ((u.withPending []).collectOutcome (outcomeOf (.bytes bs))).Gathering first past (outcomes ++ [outcomeOf (.bytes bs)]) :=
    { pending := List.append_nil _
      phase := ⟨_, (h.callerPhase_of_evaluated hpast hround).trans (by rw [List.length_append]; rfl)⟩
      received := by simp [hround.received, h.received, Nat.add_assoc]
      collected := by simp [hround.collected, h.collected] }
  exact ⟨_, hgathering, hround.answers.trans (by rw [hanswers, List.tail_cons]), hround.outRegPresent,
    fun n => (hrun n).trans (core_run_succ hstep n)⟩

/-- Where the timeout has been received and evaluated, `READ_ALL` is at its end. -/
structure State.Gathered (s : State) (first : Nat) (past : List StreamPhase) (outcomes : List DecodeOutcome) (later : List RxEvent) : Prop where
  pending : s.pending = []
  answers : s.answers = later
  collected : s.collected = outcomes
  endOfStream : s.visibleOutputs.endOfStream = true
  phase : s.callerPhase = some (.gathering first (outcomes.length + 1) false false past)

theorem State.Gathering.run_timeout (h : s.Gathering first past outcomes) (hpast : ∀ st ∈ past, ∀ n ∈ st.events, n < first)
    {later : List RxEvent} (hanswers : s.answers = .timeout :: later) :
    ∃ t : State, t.Gathered first past outcomes later ∧ core.run (readRound s.outRegPresent).length s = .next t := by
  obtain ⟨u, hround, hrun⟩ := h.run_round hanswers
  have hstep : step u = .next (u.withPending []) :=
    (step_of_pending hround.pending).trans (runAction_collect_endOfStream hround.outcome)
  refine ⟨u.withPending [], ⟨rfl, ?_, ?_, Outputs.endOfStream_of_outcome hround.outcome, h.callerPhase_of_evaluated hpast hround⟩,
    (hrun 0).trans (core_run_succ hstep 0)⟩
  · exact hround.answers.trans (by rw [hanswers, List.tail_cons])
  · exact hround.collected.trans h.collected

/-- The rounds of `READ_ALL` gather the stream up to its timeout, by induction on the stream. -/
theorem State.Gathering.run_stream (h : s.Gathering first past outcomes) (hpast : ∀ st ∈ past, ∀ n ∈ st.events, n < first)
    {stream : List (List Byte)} {later : List RxEvent} (hanswers : s.answers = stream.map .bytes ++ .timeout :: later) :
    ∃ t : State, t.Gathered first past (outcomes ++ stream.map fun bs => outcomeOf (.bytes bs)) later ∧
      core.run ((readRound s.outRegPresent).length * (stream.length + 1)) s = .next t := by
  induction stream generalizing s outcomes with
  | nil => simpa using h.run_timeout hpast hanswers
  | cons bs stream ih =>
    obtain ⟨u, hu, huanswers, hureg, hrun⟩ := h.run_bytes hpast hanswers
    obtain ⟨t, ht, htrun⟩ := ih hu huanswers
    refine ⟨t, by simpa using ht, ?_⟩
    rw [List.length_cons, Nat.mul_succ, Nat.add_comm, hrun, ← hureg, htrun]

end

/-! ### The beginning of `READ_ALL` -/

/-- The state after `READ_ALL` has emptied its list and sent its command; `run_readAll_start` ties it to the run. -/
def State.started (s : State) : State := ((s.withPending (readRound s.outRegPresent)).emptyList.selectCommand true).sendCommand

theorem run_readAll_start {s : State} (h : s.pending = readAll s.outRegPresent) (n : Nat) : core.run (3 + n) s = core.run n s.started := by
  have hlist : step s = .next (s.withPending (sendReadRecordsStart ++ readRound s.outRegPresent)).emptyList := step_of_pending h
  have hselect : step (s.withPending (sendReadRecordsStart ++ readRound s.outRegPresent)).emptyList =
      .next ((s.withPending (.send :: readRound s.outRegPresent)).emptyList.selectCommand true) :=
    (step_of_pending (a := .invoke (encode .readRecordsStart)) (rest := .send :: readRound s.outRegPresent) rfl).trans
      (runRequest_of_decode_ok (decodeOfEncodeIsTheInstruction .readRecordsStart rfl) _)
  have hsend : step ((s.withPending (.send :: readRound s.outRegPresent)).emptyList.selectCommand true) = .next s.started :=
    step_of_pending (a := .send) (rest := readRound s.outRegPresent) rfl
  rw [show 3 + n = n + 1 + 1 + 1 by omega, core_run_succ hlist, core_run_succ hselect, core_run_succ hsend]

/-- `READ_ALL` begins its stream with nothing gathered. -/
theorem State.started_gathering {s : State} {p : CallerPhase} (hheld : s.CallerHeld) (hphase : s.callerPhase = some p)
    (hopen : p.commandOpen = false) (hsettled : p.settled = true) : s.started.Gathering p.receives p.streams [] where
  pending := rfl
  phase := by
    have hhistory : s.started.history = s.history ++ [.send (commandWord true)] := rfl
    rw [State.callerPhase_of_history_snoc hhistory, hphase]
    exact ⟨false, CallerPhase.afterSend_readRecordsStart hopen hsettled⟩
  received := (hheld.receives p hphase).symm
  collected := rfl

/-- Settles O60: `READ_ALL` begins a stream, its rounds gather it, and it leaves settled streams only. -/
theorem readAllGathersTheStream : Obligations.ReadAllGathersTheStream := by
  intro s p stream later hpending hanswers hheld hphase hopen hsettled
  have hpast : ∀ st ∈ p.streams, ∀ n ∈ st.events, n < p.receives := fun st hst n hn =>
    hheld.received p hphase n (List.mem_flatMap.mpr ⟨st, hst, hn⟩)
  obtain ⟨t, ht, hrun⟩ := (State.started_gathering hheld hphase hopen hsettled).run_stream hpast (stream := stream) hanswers
  have hlength : (List.map (fun bs => outcomeOf (.bytes bs)) stream).length = stream.length := List.length_map _
  have htphase := ht.phase
  rw [List.nil_append, hlength] at htphase
  exact ⟨t, (run_readAll_start hpending _).trans hrun, ht.pending, ht.answers, ht.collected, ht.endOfStream,
    fun abort => State.dutiesKept_of_settled abort htphase hsettled, htphase⟩

end Sys2Proof.Machine
end

section
/-!
PROOFS. The value decoder (40_decfp24.md): the mantissa and the exponent of a triplet, the wiring that carries them, the number they denote,
and the float that renders it.
-/

namespace Sys2Proof.Machine

open Config

/-! ### The mantissa (R81) -/

theorem decodeValue24_m (b0 b1 b2 : Byte) : (decodeValue24 b0 b1 b2).m = mantissa b0 b1 := rfl

theorem decodeValue24_e (b0 b1 b2 : Byte) : (decodeValue24 b0 b1 b2).e = sext8 b2 := rfl

theorem mantissa_le (b0 b1 : Byte) : mantissa b0 b1 ≤ 65535 := by
  have h0 : b0.toNat < 256 := b0.isLt
  have h1 : b1.toNat < 256 := b1.isLt
  rw [mantissa]
  omega

/-- A mantissa is the number its two bytes spell, the byte at index 0 the more significant (R61). -/
theorem mantissa_eq_natOfBytes (b0 b1 : Byte) : mantissa b0 b1 = natOfBytes [b0, b1] := by
  simp [mantissa, natOfBytes]

theorem mantissa_inj {b0 b1 c0 c1 : Byte} : mantissa b0 b1 = mantissa c0 c1 ↔ b0 = c0 ∧ b1 = c1 := by
  refine ⟨fun h => ?_, fun ⟨h0, h1⟩ => h0 ▸ h1 ▸ rfl⟩
  have hbytes : [b0, b1] = [c0, c1] :=
    calc [b0, b1] = bytesOfNat 2 (mantissa b0 b1) := by rw [mantissa_eq_natOfBytes]; exact (bytesOfNat_natOfBytes [b0, b1]).symm
      _ = bytesOfNat 2 (mantissa c0 c1) := by rw [h]
      _ = [c0, c1] := by rw [mantissa_eq_natOfBytes]; exact bytesOfNat_natOfBytes [c0, c1]
  simpa using hbytes

theorem mantissa_eq_zero_iff (b0 b1 : Byte) : mantissa b0 b1 = 0 ↔ b0 = 0 ∧ b1 = 0 :=
  mantissa_inj (c0 := 0) (c1 := 0)

/-- The two low bytes of a number in range have it as their mantissa. -/
theorem exists_mantissa_eq {m : Nat} (hm : m ≤ 65535) : ∃ b0 b1, mantissa b0 b1 = m := by
  have hspell : natOfBytes (bytesOfNat 2 m) = m := by rw [natOfBytes_bytesOfNat, Nat.mod_eq_of_lt (by omega)]
  obtain ⟨b0, b1, hbytes⟩ := List.length_eq_two.mp (bytesOfNat_length 2 m)
  exact ⟨b0, b1, by rw [mantissa_eq_natOfBytes, ← hbytes, hspell]⟩

/-! ### The exponent (R82) -/

theorem sext8_eq_ite (v : Byte) : sext8 v = if v.toNat ≤ 127 then (v.toNat : Int) else v.toNat - 256 := by
  rw [sext8]
  split <;> split <;> omega

theorem toNat_gt_127_iff (v : Byte) : v.toNat > 127 ↔ v.getLsbD 7 = true := by
  have hbit : v.getLsbD 7 = decide (128 ≤ v.toNat) := (BitVec.msb_eq_getLsbD_last v).symm.trans (BitVec.msb_eq_decide v)
  rw [hbit, decide_eq_true_iff]
  omega

theorem le_sext8 (v : Byte) : -128 ≤ sext8 v := sext8_eq_toInt v ▸ v.le_toInt

theorem sext8_le (v : Byte) : sext8 v ≤ 127 := Int.le_of_lt_add_one (sext8_eq_toInt v ▸ v.toInt_lt)

theorem sext8_inj {v w : Byte} : sext8 v = sext8 w ↔ v = w := by
  rw [sext8_eq_toInt, sext8_eq_toInt, BitVec.toInt_inj]

theorem sext8_ofInt {e : Int} (hlow : -128 ≤ e) (hhigh : e ≤ 127) : sext8 (BitVec.ofInt 8 e) = e := by
  rw [sext8_eq_toInt]
  exact BitVec.toInt_ofInt_eq_self (by decide) hlow (Int.lt_add_one_of_le hhigh)

/-! ### The wiring (R31, R89) -/

/-- A byte appended below a word. -/
theorem toNat_append_byte {n : Nat} (x : BitVec n) (b : Byte) : (x ++ b).toNat = 256 * x.toNat + b.toNat := by
  rw [BitVec.toNat_append, ← Nat.shiftLeft_add_eq_or_of_lt b.isLt, Nat.shiftLeft_eq]
  omega

/-- The triplet on `decfp24`'s input is its three bytes side by side. -/
theorem ofNat_natOfBytes_triplet (b0 b1 b2 : Byte) : BitVec.ofNat 24 (natOfBytes [b0, b1, b2]) = b0 ++ b1 ++ b2 := by
  have hspell : natOfBytes [b0, b1, b2] = (b0 ++ b1 ++ b2).toNat := by simp [natOfBytes, toNat_append_byte]
  rw [hspell, BitVec.ofNat_toNat]
  exact BitVec.setWidth_eq _

theorem mantBits_decodeValue24 (b0 b1 b2 : Byte) : mantBits (decodeValue24 b0 b1 b2) = b0 ++ b1 := by
  have hm : (decodeValue24 b0 b1 b2).m = (b0 ++ b1).toNat := (toNat_append_byte b0 b1).symm
  rw [mantBits, hm, BitVec.ofNat_toNat]
  exact BitVec.setWidth_eq _

theorem expBits_decodeValue24 (b0 b1 b2 : Byte) : expBits (decodeValue24 b0 b1 b2) = b2 := by
  rw [expBits, decodeValue24_e, sext8_eq_toInt, BitVec.ofInt_toInt]

/-- `mant[15:0] = t[23:8]` (R89). -/
theorem mantBits_eq_extractLsb' (b0 b1 b2 : Byte) : mantBits (decodeValue24 b0 b1 b2) = (b0 ++ b1 ++ b2).extractLsb' 8 16 :=
  (mantBits_decodeValue24 b0 b1 b2).trans BitVec.extractLsb'_append_eq_left.symm

/-- `exp[7:0] = t[7:0]` (R89). -/
theorem expBits_eq_extractLsb' (b0 b1 b2 : Byte) : expBits (decodeValue24 b0 b1 b2) = (b0 ++ b1 ++ b2).extractLsb' 0 8 :=
  (expBits_decodeValue24 b0 b1 b2).trans BitVec.extractLsb'_append_eq_right.symm

/-! ### The number denoted (R84, R85) -/

theorem denoted_eq (v : DecVal) : denoted v = (v.m : Rat) * 10 ^ v.e := by
  rw [denoted, expBase, Nat.cast_ofNat]

theorem denoted_nonneg (v : DecVal) : 0 ≤ denoted v := by
  rw [denoted_eq]
  positivity

/-- A power of ten is never zero, so only a zero mantissa denotes 0. -/
theorem denoted_eq_zero_iff (v : DecVal) : denoted v = 0 ↔ v.m = 0 := by
  have hpow : (10 : Rat) ^ v.e ≠ 0 := zpow_ne_zero _ (by norm_num)
  rw [denoted_eq, mul_eq_zero, or_iff_left hpow, Nat.cast_eq_zero]

theorem denoted_le_denoted {v w : DecVal} (hm : v.m ≤ w.m) (he : v.e ≤ w.e) : denoted v ≤ denoted w := by
  rw [denoted_eq, denoted_eq]
  exact mul_le_mul (Nat.cast_le.mpr hm) (zpow_le_zpow_right₀ (by norm_num) he) (by positivity) (by positivity)

theorem denoted_of_e_eq_natCast {v : DecVal} {k : Nat} (he : v.e = k) : denoted v = (v.m * 10 ^ k : Nat) := by
  rw [denoted_eq, he, zpow_natCast]
  push_cast
  rfl

/-- Moving the point `k` digits to the right makes up for the exponent `-k`. -/
theorem denoted_mul_pow_of_e_eq_neg {v : DecVal} {k : Nat} (he : v.e = -k) : denoted v * 10 ^ k = v.m := by
  rw [denoted_eq, he, zpow_neg, zpow_natCast, inv_mul_cancel_right₀ (by positivity)]

/-! ### The float (R86) -/

/-- The machine's float meets the laws: it is defined by them on the three documented pairs. -/
theorem floatRender_laws : FloatRenderLaws floatRender := ⟨rfl, rfl, rfl⟩

/-- `DECODE_FRAME` renders the two values of a frame. -/
theorem exec_decodeFrame_floats (f0 f1 f2 f3 f4 f5 f6 f7 : Byte) (s : State) : ∃ t,
    exec (.decodeFrame (.bytes [f0, f1, f2, f3, f4, f5, f6, f7])) s = .next t ∧
    t.out.priFloat = floatRender (decodeValue24 f2 f3 f4) ∧ t.out.secFloat = floatRender (decodeValue24 f5 f6 f7) := by
  have hout := s.afterInstr_decodeFrame_out (frame := [f0, f1, f2, f3, f4, f5, f6, f7]) rfl
  exact ⟨_, exec_eq _ s, by rw [hout]; rfl, by rw [hout]; rfl⟩

theorem roundHalfEven_of_eq_mul {num den q : Nat} (hden : 0 < den) (h : num = q * den) : roundHalfEven num den = q := by
  subst h
  simp [roundHalfEven, Nat.mul_div_cancel q hden, hden]

/-- A number that is a 53-bit integer `q` over a power of two is not rounded: `q` is what the scaling of `roundTo53` finds. -/
theorem roundTo53_of_exact {num den q j : Nat} (hden : 0 < den) (hscale : (Nat.log2 num : Int) - Nat.log2 den - 52 = .negSucc j)
    (hexact : num * 2 ^ (j + 1) = q * den) (hbits : 2 ^ 52 ≤ q) : roundTo53 num den = mkRat num den := by
  have hquot : ¬num * 2 ^ (j + 1) / den < 2 ^ 52 := by rw [hexact, Nat.mul_div_cancel q hden]; omega
  have hround : roundTo53 num den = mkRat q (2 ^ (j + 1)) := by
    simp only [roundTo53, hscale, scalePow2, if_neg hquot, roundHalfEven_of_eq_mul hden hexact]
  rw [hround, Rat.mkRat_eq_iff (by positivity) (by omega)]
  exact_mod_cast hexact.symm

/-! ### The statements -/

/-- Settles O29: the signals are the bytes of the triplet, and they read back as its value. -/
theorem decodeValue24GivesThePair : Obligations.DecodeValue24GivesThePair := by
  intro b0 b1 b2 s
  rw [← mantBits_eq_extractLsb', ← expBits_eq_extractLsb', ← ofNat_natOfBytes_triplet]
  exact ⟨exec_eq (.decodeValue24 b0 b1 b2) s, valueOfSignals_decodeValue24 b0 b1 b2, denoted_eq (decodeValue24 b0 b1 b2)⟩

/-- Settles O30. -/
theorem mantissaIsABijection : Obligations.MantissaIsABijection := by
  refine ⟨fun b0 b1 b2 => ⟨rfl, mantissa_le b0 b1, mantissa_eq_zero_iff b0 b1⟩, fun m hm => ?_⟩
  obtain ⟨b0, b1, rfl⟩ := exists_mantissa_eq hm
  refine ⟨(b0, b1), fun _ => rfl, fun p hp => ?_⟩
  obtain ⟨h0, h1⟩ := mantissa_inj.mp (hp 0)
  exact Prod.ext h0 h1

/-- Settles O31. -/
theorem exponentIsABijection : Obligations.ExponentIsABijection := by
  refine ⟨fun b0 b1 b2 => ⟨sext8_eq_ite b2, toNat_gt_127_iff b2, le_sext8 b2, sext8_le b2⟩, fun e hlow hhigh => ?_⟩
  have he := sext8_ofInt hlow hhigh
  exact ⟨BitVec.ofInt 8 e, fun _ _ => he, fun v hv => sext8_inj.mp ((hv 0 0).trans he.symm)⟩

/-- Settles O32: the number grows with the mantissa and with the exponent, so the bounds are at the ends of their ranges. -/
theorem denotedValueRange : Obligations.DenotedValueRange := by
  intro b0 b1 b2
  have hexp := sext8_eq_ite b2
  refine ⟨denoted_nonneg _, fun hne => ?_, denoted_le_denoted (mantissa_le b0 b1) (sext8_le b2), fun hint => ?_, fun hfrac => ?_⟩
  · have hm : (decodeValue24 b0 b1 b2).m ≠ 0 := mt (denoted_eq_zero_iff _).mpr hne
    exact denoted_le_denoted (Nat.one_le_iff_ne_zero.mpr hm) (le_sext8 b2)
  · rw [if_pos hint] at hexp
    exact ⟨_, denoted_of_e_eq_natCast hexp⟩
  · rw [if_neg (by omega)] at hexp
    have hlt : b2.toNat < 256 := b2.isLt
    have hneg : (decodeValue24 b0 b1 b2).e = -((256 - b2.toNat : Nat) : Int) := by rw [decodeValue24_e]; omega
    exact ⟨_, denoted_mul_pow_of_e_eq_neg hneg⟩

/-- Settles O33: the number is 0 exactly when the mantissa is; the five pairs and their numbers are computed. -/
theorem encodingsAreRedundant : Obligations.EncodingsAreRedundant := by
  refine ⟨fun b0 b1 b2 => ?_, by decide, ?_, ?_, ?_, ?_, ?_⟩
  · rw [denoted_eq_zero_iff, decodeValue24_m, mantissa_eq_zero_iff]
  all_goals norm_num [denoted_eq]

/-- Settles O27: each triplet's pair is a documented one. -/
theorem documentedFloatsAreRendered : Obligations.DocumentedFloatsAreRendered := by
  intro b c f5 f6 f7 s
  obtain ⟨law256, law1000, lawHalf⟩ := floatRender_laws
  obtain ⟨t, ht, hpri, -⟩ := exec_decodeFrame_floats b c 0x01#8 0x00#8 0x00#8 f5 f6 f7 s
  obtain ⟨u, hu, hpri', -⟩ := exec_decodeFrame_floats b c 0x00#8 0x0A#8 0x02#8 f5 f6 f7 s
  obtain ⟨v, hv, -, hsec⟩ := exec_decodeFrame_floats b c f5 f6 f7 0x00#8 0x05#8 0xFF#8 s
  exact ⟨⟨t, ht, hpri.trans law256⟩, ⟨u, hu, hpri'.trans law1000⟩, ⟨v, hv, hsec.trans lawHalf⟩⟩

/-- Settles O28: the three numbers have at most 53 significant bits, so none is rounded. -/
theorem recommendedFloatMeetsTheLaws : Obligations.RecommendedFloatMeetsTheLaws := by
  have h256 : roundTo53 256 1 = mkRat 256 1 :=
    roundTo53_of_exact (q := 256 * 2 ^ 44) (j := 43) (by decide) (by decide) (by decide) (by decide)
  have h1000 : roundTo53 1000 1 = mkRat 1000 1 :=
    roundTo53_of_exact (q := 1000 * 2 ^ 43) (j := 42) (by decide) (by decide) (by decide) (by decide)
  have hhalf : roundTo53 5 10 = mkRat 5 10 :=
    roundTo53_of_exact (q := 2 ^ 52) (j := 52) (by decide) (by decide) (by decide) (by decide)
  refine ⟨congrArg FloatDatum.finite h256, congrArg FloatDatum.finite h1000, congrArg FloatDatum.finite ?_⟩
  exact hhalf.trans (Rat.mkRat_mul_right (n := 1) (d := 2) (a := 5) (by decide))

end Sys2Proof.Machine
end

section
/-!
PROOFS. The flags extractor (41_flags_extractor.md): its packed vector and its strings, the table beside the pseudocode, the gate between the
two modes, the records it produces and their number, and what that gives the host functions of a reading.
-/

namespace Sys2Proof.Machine

open Config

/-! ### The strings in terms of the bits (R100) -/

/-- The masks of `extractFlags_eq_textIf` as the bits they test (R101 to R113). -/
theorem extractFlags_eq_bits (b c : Byte) :
    extractFlags b c =
      { mode := textIf (b.getLsbD 7) txtVEL txtFLOW
        deg := textIf (b.getLsbD 5) txtC txtF
        mph := textIf (b.getLsbD 4 && b.getLsbD 7) txtMph []
        knot := textIf (b.getLsbD 3 && b.getLsbD 7) txtKnot []
        ftMin := textIf (b.getLsbD 2 && b.getLsbD 7) txtFtMin []
        kmh := textIf (b.getLsbD 1 && b.getLsbD 7) txtKmh []
        mS := textIf (b.getLsbD 0 && b.getLsbD 7) txtMS []
        max := textIf (c.getLsbD 7) txtMax []
        min := textIf (c.getLsbD 6) txtMin []
        avg := textIf (c.getLsbD 5) txtAvg []
        twoThird := textIf (c.getLsbD 4) txtTwoThird []
        cmmCfm := textIf (b.getLsbD 7) [] (textIf (c.getLsbD 3) txtCFM txtCMM)
        hold := textIf (c.getLsbD 1) txtHold [] } := by
  rw [extractFlags_eq_textIf, testMask_80, testMask_20, testMask_10, testMask_08, testMask_04, testMask_02, testMask_01, testMask_80,
    testMask_40, testMask_20, testMask_10, testMask_08, testMask_02]

theorem extractFlags_mode (b c : Byte) : (extractFlags b c).mode = textIf (b.getLsbD 7) txtVEL txtFLOW := fieldMode_eq b

theorem extractFlags_cmmCfm (b c : Byte) :
    (extractFlags b c).cmmCfm = textIf (b.getLsbD 7) [] (textIf (c.getLsbD 3) txtCFM txtCMM) :=
  congrArg SettingsFlags.cmmCfm (extractFlags_eq_bits b c)

/-! ### The packed vector (R114) -/

/-- The code of the gated `cmm_cfm` is populated exactly in FLOW mode, and CFM exactly when the bit is 1 there (R112). -/
theorem codes_of_gated_cmmCfm (vel cfm : Bool) :
    (textIf vel [] (textIf cfm txtCFM txtCMM) == txtCFM || textIf vel [] (textIf cfm txtCFM txtCMM) == txtCMM) = !vel ∧
    (textIf vel [] (textIf cfm txtCFM txtCMM) == txtCFM) = (!vel && cfm) := by
  revert vel cfm
  decide

theorem packSettings_extractFlags (b c : Byte) : packSettings (extractFlags b c) = settingsEquations b c := by
  obtain ⟨hpopulated, hcfm⟩ := codes_of_gated_cmmCfm (b.getLsbD 7) (c.getLsbD 3)
  rw [extractFlags_eq_bits, packSettings_of_codes, hpopulated, hcfm, settingsEquations]
  iterate 5 rw [Bool.and_comm (b.getLsbD 7)]

/-- Two records of strings of their sets with the same vector are the same record. -/
theorem eq_of_packSettings_eq {r r' : SettingsFlags} (hr : r.inSets = true) (hr' : r'.inSets = true) (h : packSettings r = packSettings r') :
    r = r' :=
  Option.some.inj ((unpackSettings_packSettings hr).symm.trans (h ▸ unpackSettings_packSettings hr'))

/-! ### The rows of the table (R118) -/

/-- A row for a byte-0 field of a velocity unit is the pseudocode's. -/
theorem FlagRow.value_of_modeIsVel (mask : Byte) (t mode : Text) (b c : Byte) :
    FlagRow.value { mask := mask, byteIndex := 0, trueValue := t, falseValue := [], precondition := .modeIsVel } mode b c =
      fieldUnit mode mask b t := by
  simp only [FlagRow.value, Precondition.holds, fieldUnit]
  cases mode == txtVEL <;> simp

/-- The row of `cmm_cfm` is the pseudocode's on a mode of the set: not VEL is FLOW. -/
theorem FlagRow.value_of_modeIsFlow (b c : Byte) :
    FlagRow.value { mask := 0x08#8, byteIndex := 1, trueValue := txtCFM, falseValue := txtCMM, precondition := .modeIsFlow } (fieldMode b) b c =
      fieldCmmCfm (fieldMode b) c := by
  have hflow : ∀ vel : Bool, (textIf vel txtVEL txtFLOW == txtFLOW) = !vel ∧ (textIf vel txtVEL txtFLOW == txtVEL) = vel := by decide
  obtain ⟨hisFlow, hisVel⟩ := hflow (b.getLsbD 7)
  simp only [FlagRow.value, Precondition.holds, fieldCmmCfm, fieldMode_eq, hisFlow, hisVel]
  cases b.getLsbD 7 <;> simp

/-! ### The gate (R115) -/

theorem extractFlags_units_of_flow {b : Byte} (c : Byte) (h : b.getLsbD 7 = false) :
    (extractFlags b c).mph = [] ∧ (extractFlags b c).knot = [] ∧ (extractFlags b c).ftMin = [] ∧ (extractFlags b c).kmh = [] ∧
      (extractFlags b c).mS = [] := by
  rw [extractFlags_eq_bits, h]
  simp [textIf]

theorem extractFlags_cmmCfm_of_vel {b : Byte} (c : Byte) (h : b.getLsbD 7 = true) : (extractFlags b c).cmmCfm = [] := by
  rw [extractFlags_cmmCfm, h]
  rfl

theorem extractFlags_cmmCfm_of_flow {b : Byte} (c : Byte) (h : b.getLsbD 7 = false) : (extractFlags b c).cmmCfm ≠ [] := by
  rw [extractFlags_cmmCfm, h]
  cases c.getLsbD 3 <;> decide

theorem gated_iff_of_vel {r : SettingsFlags} (h : r.mode = txtVEL) : r.gated = true ↔ r.cmmCfm = [] := by
  simp [SettingsFlags.gated, h]

theorem gated_iff_of_flow {r : SettingsFlags} (h : r.mode = txtFLOW) :
    r.gated = true ↔ r.mph = [] ∧ r.knot = [] ∧ r.ftMin = [] ∧ r.kmh = [] ∧ r.mS = [] ∧ r.cmmCfm ≠ [] := by
  have hne : (txtFLOW == txtVEL) = false := by decide
  simp [SettingsFlags.gated, h, hne, and_assoc]

/-! ### The closed sets of strings (R25) -/

theorem inSets_iff (r : SettingsFlags) :
    r.inSets = true ↔ (r.mode = txtVEL ∨ r.mode = txtFLOW) ∧ (r.deg = txtC ∨ r.deg = txtF) ∧ (r.mph = txtMph ∨ r.mph = []) ∧
      (r.knot = txtKnot ∨ r.knot = []) ∧ (r.ftMin = txtFtMin ∨ r.ftMin = []) ∧ (r.kmh = txtKmh ∨ r.kmh = []) ∧
      (r.mS = txtMS ∨ r.mS = []) ∧ (r.max = txtMax ∨ r.max = []) ∧ (r.min = txtMin ∨ r.min = []) ∧ (r.avg = txtAvg ∨ r.avg = []) ∧
      (r.twoThird = txtTwoThird ∨ r.twoThird = []) ∧ (r.cmmCfm = txtCFM ∨ r.cmmCfm = txtCMM ∨ r.cmmCfm = []) ∧
      (r.hold = txtHold ∨ r.hold = []) := by
  simp only [SettingsFlags.inSets, Bool.and_eq_true, Bool.or_eq_true, beq_iff_eq, and_assoc, or_assoc]

theorem mode_of_inSets {r : SettingsFlags} (h : r.inSets = true) : r.mode = txtVEL ∨ r.mode = txtFLOW := ((inSets_iff r).mp h).1

theorem cmmCfm_of_inSets {r : SettingsFlags} (h : r.inSets = true) (hne : r.cmmCfm ≠ []) : r.cmmCfm = txtCFM ∨ r.cmmCfm = txtCMM := by
  obtain ⟨-, -, -, -, -, -, -, -, -, -, -, hcmmCfm, -⟩ := (inSets_iff r).mp h
  exact hcmmCfm.imp_right fun h => h.resolve_right hne

/-! ### The records produced (R117) -/

/-- The block produces reachable records only. -/
theorem extractFlags_reachable (b c : Byte) : (extractFlags b c).reachable = true := by
  refine Bool.and_eq_true_iff.mpr ⟨extractFlags_inSets b c, ?_⟩
  have hmode := extractFlags_mode b c
  cases hvel : b.getLsbD 7 with
  | true =>
    rw [hvel] at hmode
    exact (gated_iff_of_vel hmode).mpr (extractFlags_cmmCfm_of_vel c hvel)
  | false =>
    rw [hvel] at hmode
    obtain ⟨hmph, hknot, hftMin, hkmh, hmS⟩ := extractFlags_units_of_flow c hvel
    exact (gated_iff_of_flow hmode).mpr ⟨hmph, hknot, hftMin, hkmh, hmS, extractFlags_cmmCfm_of_flow c hvel⟩

/-- The eight bits of a byte, bit 7 first. -/
def byteOfBits (x7 x6 x5 x4 x3 x2 x1 x0 : Bool) : Byte := BitVec.ofBoolListBE [x7, x6, x5, x4, x3, x2, x1, x0]

theorem getLsbD_byteOfBits (x7 x6 x5 x4 x3 x2 x1 x0 : Bool) (i : Nat) :
    (byteOfBits x7 x6 x5 x4 x3 x2 x1 x0).getLsbD i = [x0, x1, x2, x3, x4, x5, x6, x7].getD i false := by
  refine (BitVec.getLsbD_ofBoolListBE ..).trans ?_
  match i with
  | 0 | 1 | 2 | 3 | 4 | 5 | 6 | 7 => rfl
  | _ + 8 => simp

/-- A first flags byte from which a reachable record is produced, its unread bit 6 being 0. -/
def firstByte (r : SettingsFlags) : Byte :=
  byteOfBits (r.mode == txtVEL) false (r.deg == txtC) (r.mph == txtMph) (r.knot == txtKnot) (r.ftMin == txtFtMin) (r.kmh == txtKmh)
    (r.mS == txtMS)

/-- The second flags byte, its unread bits 2 and 0 being 0. -/
def secondByte (r : SettingsFlags) : Byte :=
  byteOfBits (r.max == txtMax) (r.min == txtMin) (r.avg == txtAvg) (r.twoThird == txtTwoThird) (r.cmmCfm == txtCFM) false
    (r.hold == txtHold) false

/-- In a reachable record the mode gates the codes of the units and of `cmm_cfm`. -/
theorem codes_of_reachable {r : SettingsFlags} (h : r.reachable = true) :
    ((r.mode == txtVEL && r.mph == txtMph) = (r.mph == txtMph) ∧ (r.mode == txtVEL && r.knot == txtKnot) = (r.knot == txtKnot) ∧
      (r.mode == txtVEL && r.ftMin == txtFtMin) = (r.ftMin == txtFtMin) ∧ (r.mode == txtVEL && r.kmh == txtKmh) = (r.kmh == txtKmh) ∧
      (r.mode == txtVEL && r.mS == txtMS) = (r.mS == txtMS)) ∧
    (!(r.mode == txtVEL)) = (r.cmmCfm == txtCFM || r.cmmCfm == txtCMM) ∧
    (!(r.mode == txtVEL) && r.cmmCfm == txtCFM) = (r.cmmCfm == txtCFM) := by
  obtain ⟨hsets, hgated⟩ := Bool.and_eq_true_iff.mp h
  obtain hvel | hflow := mode_of_inSets hsets
  · have hcmmCfm := (gated_iff_of_vel hvel).mp hgated
    rw [hvel, hcmmCfm]
    simp only [BEq.rfl, Bool.true_and, true_and, and_self]
    decide
  · obtain ⟨hmph, hknot, hftMin, hkmh, hmS, hne⟩ := (gated_iff_of_flow hflow).mp hgated
    rw [hflow, hmph, hknot, hftMin, hkmh, hmS]
    obtain hcfm | hcmm := cmmCfm_of_inSets hsets hne
    · rw [hcfm]; decide
    · rw [hcmm]; decide

theorem settingsEquations_of_reachable {r : SettingsFlags} (h : r.reachable = true) :
    settingsEquations (firstByte r) (secondByte r) = packSettings r := by
  obtain ⟨⟨hmph, hknot, hftMin, hkmh, hmS⟩, hpopulated, hcfm⟩ := codes_of_reachable h
  simp only [settingsEquations, packSettings, firstByte, secondByte, getLsbD_byteOfBits, List.getD_cons_succ, List.getD_cons_zero]
  rw [hmph, hknot, hftMin, hkmh, hmS, hcfm, hpopulated]

/-- A reachable record is produced from its two bytes: they have its vector. -/
theorem extractFlags_of_reachable {r : SettingsFlags} (h : r.reachable = true) : extractFlags (firstByte r) (secondByte r) = r := by
  refine eq_of_packSettings_eq (extractFlags_inSets _ _) (SettingsFlags.inSets_of_reachable h) ?_
  rw [packSettings_extractFlags, settingsEquations_of_reachable h]

theorem exists_extractFlags_eq_iff (r : SettingsFlags) : (∃ b c : Byte, extractFlags b c = r) ↔ r.reachable = true := by
  refine ⟨?_, fun h => ⟨_, _, extractFlags_of_reachable h⟩⟩
  rintro ⟨b, c, rfl⟩
  exact extractFlags_reachable b c

/-! ### Their number (R117) -/

/-- A record's strings by their place in the canonical order. -/
def fieldAt (r : SettingsFlags) : Fin 13 → Text :=
  ![r.mode, r.deg, r.mph, r.knot, r.ftMin, r.kmh, r.mS, r.max, r.min, r.avg, r.twoThird, r.cmmCfm, r.hold]

theorem ofFn_fieldAt (r : SettingsFlags) : List.ofFn (fieldAt r) = fieldValues r := rfl

theorem forall_fieldAt_mem_iff (r : SettingsFlags) (strings : Fin 13 → Finset Text) :
    (∀ i, fieldAt r i ∈ strings i) ↔ r.mode ∈ strings 0 ∧ r.deg ∈ strings 1 ∧ r.mph ∈ strings 2 ∧ r.knot ∈ strings 3 ∧
      r.ftMin ∈ strings 4 ∧ r.kmh ∈ strings 5 ∧ r.mS ∈ strings 6 ∧ r.max ∈ strings 7 ∧ r.min ∈ strings 8 ∧ r.avg ∈ strings 9 ∧
      r.twoThird ∈ strings 10 ∧ r.cmmCfm ∈ strings 11 ∧ r.hold ∈ strings 12 := by
  simp [Fin.forall_fin_succ, fieldAt]

/-- A record is its thirteen strings. -/
def fieldsEquiv : SettingsFlags ≃ (Fin 13 → Text) where
  toFun := fieldAt
  invFun v := { mode := v 0, deg := v 1, mph := v 2, knot := v 3, ftMin := v 4, kmh := v 5, mS := v 6, max := v 7, min := v 8, avg := v 9,
                twoThird := v 10, cmmCfm := v 11, hold := v 12 }
  left_inv _ := rfl
  right_inv v := by funext i; fin_cases i <;> rfl

/-- The strings each field can hold in VEL mode. -/
def velStrings : Fin 13 → Finset Text :=
  ![{txtVEL}, {txtC, txtF}, {txtMph, []}, {txtKnot, []}, {txtFtMin, []}, {txtKmh, []}, {txtMS, []}, {txtMax, []}, {txtMin, []}, {txtAvg, []},
    {txtTwoThird, []}, {[]}, {txtHold, []}]

/-- The strings each field can hold in FLOW mode. -/
def flowStrings : Fin 13 → Finset Text :=
  ![{txtFLOW}, {txtC, txtF}, {[]}, {[]}, {[]}, {[]}, {[]}, {txtMax, []}, {txtMin, []}, {txtAvg, []}, {txtTwoThird, []}, {txtCFM, txtCMM},
    {txtHold, []}]

/-- In one mode the gate is that mode's condition on the fields. -/
theorem reachable_and_mode_iff {r : SettingsFlags} {mode : Text} {gate : Prop} (h : r.mode = mode → (r.gated = true ↔ gate)) :
    r.reachable = true ∧ r.mode = mode ↔ r.inSets = true ∧ r.mode = mode ∧ gate := by
  rw [SettingsFlags.reachable, Bool.and_eq_true, and_assoc, and_comm (a := r.gated = true)]
  exact and_congr_right fun _ => and_congr_right h

/-- In VEL mode a reachable record has any string of its set in each field but `mode` and `cmm_cfm`. -/
theorem reachable_vel_iff (r : SettingsFlags) : r.reachable = true ∧ r.mode = txtVEL ↔ ∀ i, fieldAt r i ∈ velStrings i := by
  rw [reachable_and_mode_iff gated_iff_of_vel, inSets_iff, forall_fieldAt_mem_iff]
  simp only [velStrings, Matrix.cons_val, Finset.mem_insert, Finset.mem_singleton]
  constructor
  · rintro ⟨⟨-, hdeg, hmph, hknot, hftMin, hkmh, hmS, hmax, hmin, havg, htwoThird, -, hhold⟩, hmode, hcmmCfm⟩
    exact ⟨hmode, hdeg, hmph, hknot, hftMin, hkmh, hmS, hmax, hmin, havg, htwoThird, hcmmCfm, hhold⟩
  · rintro ⟨hmode, hdeg, hmph, hknot, hftMin, hkmh, hmS, hmax, hmin, havg, htwoThird, hcmmCfm, hhold⟩
    exact ⟨⟨.inl hmode, hdeg, hmph, hknot, hftMin, hkmh, hmS, hmax, hmin, havg, htwoThird, .inr (.inr hcmmCfm), hhold⟩, hmode, hcmmCfm⟩

/-- In FLOW mode the unit fields are empty and `cmm_cfm` is one of its two units. -/
theorem reachable_flow_iff (r : SettingsFlags) : r.reachable = true ∧ r.mode = txtFLOW ↔ ∀ i, fieldAt r i ∈ flowStrings i := by
  have hunits : ∀ t ∈ [txtCFM, txtCMM], t ≠ [] := by decide
  rw [reachable_and_mode_iff gated_iff_of_flow, forall_fieldAt_mem_iff]
  simp only [flowStrings, Matrix.cons_val, Finset.mem_insert, Finset.mem_singleton]
  constructor
  · rintro ⟨hsets, hmode, hmph, hknot, hftMin, hkmh, hmS, hne⟩
    obtain ⟨-, hdeg, -, -, -, -, -, hmax, hmin, havg, htwoThird, -, hhold⟩ := (inSets_iff r).mp hsets
    exact ⟨hmode, hdeg, hmph, hknot, hftMin, hkmh, hmS, hmax, hmin, havg, htwoThird, cmmCfm_of_inSets hsets hne, hhold⟩
  · rintro ⟨hmode, hdeg, hmph, hknot, hftMin, hkmh, hmS, hmax, hmin, havg, htwoThird, hcmmCfm, hhold⟩
    refine ⟨(inSets_iff r).mpr ⟨.inr hmode, hdeg, .inr hmph, .inr hknot, .inr hftMin, .inr hkmh, .inr hmS, hmax, hmin, havg, htwoThird,
      hcmmCfm.imp_right .inl, hhold⟩, hmode, hmph, hknot, hftMin, hkmh, hmS, hunits _ ?_⟩
    simpa using hcmmCfm

/-- There are as many records with each string of its set as the product of the sets' sizes. -/
theorem ncard_fields_mem (strings : Fin 13 → Finset Text) :
    Set.ncard {r : SettingsFlags | ∀ i, fieldAt r i ∈ strings i} = ∏ i, (strings i).card := by
  have himage : {r : SettingsFlags | ∀ i, fieldAt r i ∈ strings i} = fieldsEquiv.symm '' (Fintype.piFinset strings : Set (Fin 13 → Text)) := by
    rw [Equiv.image_symm_eq_preimage]
    ext r
    exact Fintype.mem_piFinset.symm
  rw [himage, Set.ncard_image_of_injective _ fieldsEquiv.symm.injective, Set.ncard_coe_finset, Fintype.card_piFinset]

theorem prod_card_velStrings : ∏ i, (velStrings i).card = 2048 := by decide

theorem prod_card_flowStrings : ∏ i, (flowStrings i).card = 128 := by decide

/-- The records the block produces in a mode. -/
def producedIn (mode : Text) : Set SettingsFlags := {r | (∃ b c : Byte, extractFlags b c = r) ∧ r.mode = mode}

theorem ncard_producedIn_vel : (producedIn txtVEL).ncard = 2048 := by
  have hfields : producedIn txtVEL = {r | ∀ i, fieldAt r i ∈ velStrings i} :=
    Set.ext fun r => (and_congr_left' (exists_extractFlags_eq_iff r)).trans (reachable_vel_iff r)
  rw [hfields, ncard_fields_mem, prod_card_velStrings]

theorem ncard_producedIn_flow : (producedIn txtFLOW).ncard = 128 := by
  have hfields : producedIn txtFLOW = {r | ∀ i, fieldAt r i ∈ flowStrings i} :=
    Set.ext fun r => (and_congr_left' (exists_extractFlags_eq_iff r)).trans (reachable_flow_iff r)
  rw [hfields, ncard_fields_mem, prod_card_flowStrings]

/-- Every record produced is of one of the two modes. -/
theorem produced_eq_union : {r | ∃ b c : Byte, extractFlags b c = r} = producedIn txtVEL ∪ producedIn txtFLOW := by
  ext r
  have hmode : (∃ b c : Byte, extractFlags b c = r) → r.mode = txtVEL ∨ r.mode = txtFLOW := by
    rintro ⟨b, c, rfl⟩
    exact mode_of_inSets (extractFlags_inSets b c)
  exact ⟨fun h => (hmode h).imp (⟨h, ·⟩) (⟨h, ·⟩), fun h => h.elim And.left And.left⟩

theorem disjoint_producedIn : Disjoint (producedIn txtVEL) (producedIn txtFLOW) := by
  have hne : txtVEL ≠ txtFLOW := by decide
  exact Set.disjoint_left.mpr fun _ ⟨_, hvel⟩ ⟨_, hflow⟩ => hne (hvel.symm.trans hflow)

theorem ncard_produced : Set.ncard {r | ∃ b c : Byte, extractFlags b c = r} = 2176 := by
  have hvel : (producedIn txtVEL).Finite := Set.finite_of_ncard_ne_zero (by rw [ncard_producedIn_vel]; decide)
  have hflow : (producedIn txtFLOW).Finite := Set.finite_of_ncard_ne_zero (by rw [ncard_producedIn_flow]; decide)
  rw [produced_eq_union, Set.ncard_union_eq disjoint_producedIn hvel hflow, ncard_producedIn_vel, ncard_producedIn_flow]

/-! ### The statements -/

/-- Settles O34: the outputs of `flagx` are the packed strings, and those are the equations. -/
theorem extractFlagsDrivesThePackedVector : Obligations.ExtractFlagsDrivesThePackedVector := by
  intro b c s
  rw [exec_eq, ← packSettings_extractFlags]
  rfl

/-- Settles O35: the strings are of their sets, so unpacking their vector gives them back. -/
theorem extractFlagsGivesTheThirteenStrings : Obligations.ExtractFlagsGivesTheThirteenStrings := by
  intro b c s
  refine ⟨_, exec_eq _ s, ?_⟩
  calc unpackSettings (packSettings (extractFlags b c)) = some (extractFlags b c) := unpackSettings_packSettings (extractFlags_inSets b c)
    _ = _ := congrArg some (extractFlags_eq_bits b c)

/-- Settles O36, row by row: those without a precondition are the pseudocode's as they stand. -/
theorem tableAndPseudocodeAgree : Obligations.TableAndPseudocodeAgree := by
  intro b c
  simp only [fieldsByTable, flagTable, List.map_cons, List.map_nil, FlagRow.value_of_modeIsVel, FlagRow.value_of_modeIsFlow]
  rfl

/-- Settles O37. -/
theorem modeGatesTheUnits : Obligations.ModeGatesTheUnits := by
  intro b c
  refine ⟨fun hflow => ?_, extractFlags_cmmCfm_of_vel c⟩
  obtain ⟨hmph, hknot, hftMin, hkmh, hmS⟩ := extractFlags_units_of_flow c hflow
  exact ⟨hmph, hknot, hftMin, hkmh, hmS, extractFlags_cmmCfm_of_flow c hflow⟩

/-- Settles O38: a reachable record is produced from its own two bytes, and each mode leaves its fields a free choice of strings. -/
theorem producedRecordsAreTheReachableOnes : Obligations.ProducedRecordsAreTheReachableOnes :=
  ⟨exists_extractFlags_eq_iff, ncard_producedIn_vel, ncard_producedIn_flow, ncard_produced⟩

/-- Settles O44: the settings of a reading are a frame's, packed from a record the block produces. -/
theorem readingsGiveWellFormedHostFunctions : Obligations.ReadingsGiveWellFormedHostFunctions := by
  intro o w hsound hok
  obtain ⟨frame, -, hreading⟩ := hsound.data hok
  have hreachable : (readingOfFrame frame).settings.reachable = true := extractFlags_reachable _ _
  have hdecode : decodeSettings (settingsBytes o.settings) = .ok (readingOfFrame frame).settings := by
    rw [hreading, Outputs.ofReading_settings, decodeSettings_of_inSets (SettingsFlags.inSets_of_reachable hreachable)]
  exact ⟨_, hreachable, congrArg (·.map Instr.primaryUnit) hdecode, congrArg (·.map Instr.secondaryUnit) hdecode,
    congrArg (·.map (Instr.render · w)) hdecode⟩

end Sys2Proof.Machine
end

section
/-!
PROOFS. The frame decoder and the two commands (42_frame_and_commands.md): the word each command drives, the state `DECODE_FRAME` leaves for
every event, and what every operation leaves unchanged.
-/

namespace Sys2Proof.Machine

open Config

/-! ### The command frames (R134 to R136) -/

theorem commandWord_false : commandWord false = 0xB300000000000000#64 := by decide

theorem commandWord_true : commandWord true = 0xC400000000000000#64 := by decide

/-- The two commands are the two ways to drive `cmd_sel`. -/
theorem exists_exec_eq_selectCommand {i : Instr} (h : i = .readCurrent ∨ i = .readRecordsStart) :
    ∃ sel, ∀ s : State, exec i s = .next (s.selectCommand sel) := by
  rcases h with rfl | rfl
  · exact ⟨false, exec_eq _⟩
  · exact ⟨true, exec_eq _⟩

theorem State.driveEvent_selectCommand (s : State) (sel : Bool) (ev : RxEvent) :
    (s.selectCommand sel).driveEvent ev = (s.driveEvent ev).selectCommand sel := by
  cases ev <;> rfl

theorem State.driveOutcome_selectCommand (s : State) (sel : Bool) (o : DecodeOutcome) :
    (s.selectCommand sel).driveOutcome o = (s.driveOutcome o).selectCommand sel := by
  cases o with
  | reading r => rfl
  | error e => cases e; rfl
  | endOfStream => rfl

/-- A decode and a command commute (R136): they drive signals of their own, and the decode's outcome is its event's. -/
theorem State.decodeFrame_selectCommand (s : State) (sel : Bool) (ev : RxEvent) :
    (s.selectCommand sel).afterInstr (.decodeFrame ev) = (s.afterInstr (.decodeFrame ev)).selectCommand sel := by
  simp only [State.afterInstr, State.driveEvent_selectCommand, State.driveOutcome_selectCommand]

/-! ### The state `DECODE_FRAME` leaves (R130, R131, R174) -/

theorem State.decodeFrame_timeout (s : State) :
    s.afterInstr (.decodeFrame .timeout) = s.driveTimeout.driveNoReading false true := rfl

theorem State.decodeFrame_of_length (s : State) {frame : List Byte} (hlen : frame.length = frameLen) :
    s.afterInstr (.decodeFrame (.bytes frame)) = (s.driveBytes frame).driveReading (readingOfFrame frame) := by
  rw [State.afterInstr, outcomeOf_of_length hlen, State.driveOutcome_reading, State.driveEvent_bytes]

theorem State.decodeFrame_of_length_ne (s : State) {bs : List Byte} (hlen : bs.length ≠ frameLen) :
    s.afterInstr (.decodeFrame (.bytes bs)) = (s.driveBytes bs).driveNoReading true false := by
  rw [State.afterInstr, outcomeOf_of_length_ne hlen, State.driveOutcome_error, State.driveEvent_bytes]

theorem exec_decodeFrame_of_length (s : State) {frame : List Byte} (hlen : frame.length = frameLen) :
    exec (.decodeFrame (.bytes frame)) s = .next ((s.driveBytes frame).driveReading (readingOfFrame frame)) := by
  rw [exec_eq, State.decodeFrame_of_length s hlen]

theorem exec_decodeFrame_of_length_ne (s : State) {bs : List Byte} (hlen : bs.length ≠ frameLen) :
    exec (.decodeFrame (.bytes bs)) s = .next ((s.driveBytes bs).driveNoReading true false) := by
  rw [exec_eq, State.decodeFrame_of_length_ne s hlen]

/-- Everything `DECODE_FRAME` may change: the receive inputs, the outputs and the count of draws (R136, R139). -/
theorem State.decodeFrame_frame (s : State) (ev : RxEvent) : ∃ rxTimeout rxLen frame out freeDraws,
    s.afterInstr (.decodeFrame ev) =
      { s with rxTimeout := rxTimeout, rxLen := rxLen, frame := frame, out := out, freeDraws := freeDraws } := by
  cases ev with
  | timeout => exact ⟨_, _, _, _, _, s.decodeFrame_timeout⟩
  | bytes bs =>
    by_cases hlen : bs.length = frameLen
    · exact ⟨_, _, _, _, _, s.decodeFrame_of_length hlen⟩
    · exact ⟨_, _, _, _, _, s.decodeFrame_of_length_ne hlen⟩

theorem State.decodeFrame_outcome (s : State) (ev : RxEvent) : (s.afterInstr (.decodeFrame ev)).out.outcome = some (outcomeOf ev) :=
  State.driveOutcome_outcome _ ev

/-- Only a frame of 8 bytes gives a reading. -/
theorem State.exists_frame_of_decodeFrame_ok {s : State} {ev : RxEvent} (hok : (s.afterInstr (.decodeFrame ev)).out.ok = true) :
    ∃ frame, ev = .bytes frame ∧ frame.length = frameLen := by
  cases ev with
  | timeout => simp [State.decodeFrame_timeout] at hok
  | bytes bs =>
    by_cases hlen : bs.length = frameLen
    · exact ⟨bs, rfl, hlen⟩
    · simp [State.decodeFrame_of_length_ne s hlen] at hok

/-! ### The signals of a delivered frame (R29 to R31, R38) -/

/-- The mantissa's two bytes and the exponent's byte read as the triplet's value. -/
theorem valueOfSignals_append (b0 b1 b2 : Byte) : valueOfSignals (b0 ++ b1) b2 = decodeValue24 b0 b1 b2 :=
  calc valueOfSignals (b0 ++ b1) b2
      = valueOfSignals (mantBits (decodeValue24 b0 b1 b2)) (expBits (decodeValue24 b0 b1 b2)) := by
        rw [mantBits_decodeValue24, expBits_decodeValue24]
    _ = decodeValue24 b0 b1 b2 := valueOfSignals_decodeValue24 b0 b1 b2

theorem State.driveBytes_rxData (s : State) {frame : List Byte} (hlen : frame.length = frameLen) :
    (s.driveBytes frame).rxData = some (wordOfFrame ((List.range' 0 frameLen).map fun k => frame.getD k 0#8)) := by
  rw [State.rxData, State.driveBytes_frame, readBytes_loadFrame frame 0 frameLen hlen (by decide), Option.map_some]

/-- The word of a frame is its eight bytes side by side, index 0 at the top. -/
theorem wordOfFrame_eq_append (f0 f1 f2 f3 f4 f5 f6 f7 : Byte) :
    wordOfFrame [f0, f1, f2, f3, f4, f5, f6, f7] = f0 ++ f1 ++ f2 ++ f3 ++ f4 ++ f5 ++ f6 ++ f7 := by
  have hspell : natOfBytes [f0, f1, f2, f3, f4, f5, f6, f7] = (f0 ++ f1 ++ f2 ++ f3 ++ f4 ++ f5 ++ f6 ++ f7).toNat := by
    simp [natOfBytes, toNat_append_byte]
  rw [wordOfFrame, hspell, BitVec.ofNat_toNat]
  exact BitVec.setWidth_eq _

/-! ### The statements -/

/-- Settles O12. -/
theorem readCurrentDrivesItsFrame : Obligations.ReadCurrentDrivesItsFrame :=
  ⟨rfl, fun s => by rw [exec_eq, State.afterInstr, State.selectCommand, commandWord_false]⟩

/-- Settles O13. -/
theorem readRecordsStartDrivesItsFrame : Obligations.ReadRecordsStartDrivesItsFrame :=
  ⟨rfl, fun s => by rw [exec_eq, State.afterInstr, State.selectCommand, commandWord_true]⟩

/-- Settles O14: the command drives `cmd_sel` and `tx_data` alone, so it commutes with the decode, which leaves those two alone. -/
theorem commandAndDecodeDoNotInteract : Obligations.CommandAndDecodeDoNotInteract := by
  intro i ev s hi
  obtain ⟨sel, hcommand⟩ := exists_exec_eq_selectCommand hi
  obtain ⟨_, _, _, _, _, hframe⟩ := s.decodeFrame_frame ev
  have hdecode : exec (.decodeFrame ev) (s.selectCommand sel) = .next ((s.afterInstr (.decodeFrame ev)).selectCommand sel) := by
    rw [exec_eq, State.decodeFrame_selectCommand]
  exact ⟨_, _, _, hcommand s, hdecode, exec_eq _ s, hcommand _, State.selectCommand_out s sel, by rw [hframe], by rw [hframe]⟩

/-- Settles O15: the outputs show `outcomeOf ev`, read off for each kind of event. -/
theorem decodeFrameOutcome : Obligations.DecodeFrameOutcome := by
  intro ev s
  have houtcome := s.decodeFrame_outcome ev
  refine ⟨_, exec_eq _ s, ?_, ?_, ?_⟩
  · rintro rfl
    exact houtcome
  · rintro bs rfl hlen
    rw [houtcome, outcomeOf_of_length_ne hlen]
  · rintro f0 f1 f2 f3 f4 f5 f6 f7 rfl
    exact houtcome

/-- Settles O16: the signals of the two values are the frame's bytes, and the buffer is the frame. -/
theorem decodeFrameDrivesTheReading : Obligations.DecodeFrameDrivesTheReading := by
  intro f0 f1 f2 f3 f4 f5 f6 f7 s
  have hlen : [f0, f1, f2, f3, f4, f5, f6, f7].length = frameLen := rfl
  rw [valueOfSignals_append, valueOfSignals_append, ← packSettings_extractFlags, ← wordOfFrame_eq_append]
  exact ⟨_, exec_decodeFrame_of_length s hlen, rfl, rfl, rfl, mantBits_decodeValue24 f2 f3 f4, expBits_decodeValue24 f2 f3 f4,
    mantBits_decodeValue24 f5 f6 f7, expBits_decodeValue24 f5 f6 f7, rfl, rfl, rfl, s.driveBytes_rxData hlen, readByte_loadFrame _, rfl⟩

/-- Settles O22: a reading's outputs are the frame's, whatever state the evaluation starts from. -/
theorem decodeFrameIsAFunctionOfTheEvent : Obligations.DecodeFrameIsAFunctionOfTheEvent := by
  intro ev s s'
  refine ⟨_, _, exec_eq _ s, exec_eq _ s', s.decodeFrame_outcome ev, s'.decodeFrame_outcome ev, fun hok => ?_⟩
  obtain ⟨frame, rfl, hlen⟩ := State.exists_frame_of_decodeFrame_ok hok
  rw [s.afterInstr_decodeFrame_out hlen, s'.afterInstr_decodeFrame_out hlen]

/-- Settles O17. -/
theorem decodeFrameRaisesBadLength : Obligations.DecodeFrameRaisesBadLength := by
  intro bs s hlen
  exact ⟨_, exec_decodeFrame_of_length_ne s hlen, rfl, rfl, rfl, rfl, readByte_loadFrame bs, rfl⟩

/-- Settles O18: the outputs are `BadLength`'s with the state's next draw. -/
theorem badLengthReadsNoByte : Obligations.BadLengthReadsNoByte := by
  intro bs bs' s hlen hlen'
  exact ⟨_, _, exec_decodeFrame_of_length_ne s hlen, exec_decodeFrame_of_length_ne s hlen', rfl, rfl⟩

/-- Settles O24: each part of the outputs is a function of its own bytes. -/
theorem partsOfAReadingAreIndependent : Obligations.PartsOfAReadingAreIndependent := by
  intro f0 f1 f2 f3 f4 f5 f6 f7 g0 g1 g2 g3 g4 g5 g6 g7 s
  refine ⟨_, _, exec_eq _ s, exec_eq _ s, ?_⟩
  rw [s.afterInstr_decodeFrame_out (frame := [f0, f1, f2, f3, f4, f5, f6, f7]) rfl,
    s.afterInstr_decodeFrame_out (frame := [g0, g1, g2, g3, g4, g5, g6, g7]) rfl]
  refine ⟨?_, ?_, ?_⟩
  · rintro rfl rfl rfl
    exact ⟨rfl, rfl, rfl⟩
  · rintro rfl rfl rfl
    exact ⟨rfl, rfl, rfl⟩
  · rintro rfl rfl
    rfl

/-- Settles O26: O16 at `READ_CURRENT`'s frame, its settings by the equations of R114. -/
theorem commandFrameFedBackIsAnyFrame : Obligations.CommandFrameFedBackIsAnyFrame := by
  intro s
  obtain ⟨t, hexec, hok, -, -, hpriMant, hpriExp, hsecMant, hsecExp, hsettings, -⟩ :=
    decodeFrameDrivesTheReading 0xB3#8 0#8 0#8 0#8 0#8 0#8 0#8 0#8 s
  have hequations : settingsEquations 0xB3#8 0#8 = 0x3980#14 := by decide
  exact ⟨t, hexec, hok, hpriMant, hpriExp, hsecMant, hsecExp, hsettings.trans hequations⟩

/-- Settles O56: the named updates change their own fields, and `DECODE_FRAME` only those of `State.decodeFrame_frame`. -/
theorem operationsChangeOnlyTheirOwn : Obligations.OperationsChangeOnlyTheirOwn := by
  intro i s t hexec
  obtain rfl := eq_afterInstr_of_exec hexec
  cases i with
  | decodeFrame ev =>
    obtain ⟨_, _, _, _, _, hframe⟩ := s.decodeFrame_frame ev
    rw [hframe]
    simp
  | readCurrent | readRecordsStart | decodeValue24 | extractFlags | primaryUnit | secondaryUnit | render => simp [State.afterInstr]

end Sys2Proof.Machine
end

section
/-!
PROOFS. The host view (43_formatter.md): the strings of `PRIMARY_UNIT` and `SECONDARY_UNIT` on any record and on a produced one, the joined and
justified fields of `RENDER`, and the length of its result.
-/

namespace Sys2Proof.Machine

open Config

/-! ### The primary unit (R150) -/

theorem primaryUnitText_of_vel {r : SettingsFlags} (h : r.mode = txtVEL) :
    primaryUnitText r = r.mph ++ r.knot ++ r.ftMin ++ r.kmh ++ r.mS := by
  simp only [primaryUnitText, h, beq_self_eq_true, if_true]

theorem primaryUnitText_of_ne_vel {r : SettingsFlags} (h : r.mode ≠ txtVEL) : primaryUnitText r = r.cmmCfm := by
  simp only [primaryUnitText, beq_iff_eq, h, if_false]

theorem primaryUnitText_eq_ite (r : SettingsFlags) :
    primaryUnitText r = if r.mode = txtVEL then r.mph ++ (r.knot ++ (r.ftMin ++ (r.kmh ++ r.mS))) else r.cmmCfm := by
  by_cases hvel : r.mode = txtVEL
  · rw [primaryUnitText_of_vel hvel, if_pos hvel]
    simp only [List.append_assoc]
  · rw [primaryUnitText_of_ne_vel hvel, if_neg hvel]

/-- With `b[7] = 1` the mode is VEL, so the gate of R115 lets each unit's own bit through. -/
theorem primaryUnitText_extractFlags_of_vel {b : Byte} (c : Byte) (h : b.getLsbD 7 = true) :
    primaryUnitText (extractFlags b c) =
      textIf (b.getLsbD 4) txtMph [] ++ textIf (b.getLsbD 3) txtKnot [] ++ textIf (b.getLsbD 2) txtFtMin [] ++
        textIf (b.getLsbD 1) txtKmh [] ++ textIf (b.getLsbD 0) txtMS [] := by
  have hmode : (extractFlags b c).mode = txtVEL := by rw [extractFlags_mode, h]; rfl
  rw [primaryUnitText_of_vel hmode, extractFlags_eq_bits, h]
  simp only [Bool.and_true]

theorem primaryUnitText_extractFlags_of_flow {b : Byte} (c : Byte) (h : b.getLsbD 7 = false) :
    primaryUnitText (extractFlags b c) = textIf (c.getLsbD 3) txtCFM txtCMM := by
  have hmode : (extractFlags b c).mode = txtFLOW := by rw [extractFlags_mode, h]; rfl
  have hne : (extractFlags b c).mode ≠ txtVEL := by rw [hmode]; decide
  rw [primaryUnitText_of_ne_vel hne, extractFlags_cmmCfm, h]
  rfl

/-! ### The secondary unit (R151) -/

theorem extractFlags_deg (b c : Byte) : (extractFlags b c).deg = textIf (b.getLsbD 5) txtC txtF :=
  congrArg SettingsFlags.deg (extractFlags_eq_bits b c)

theorem secondaryUnitText_extractFlags (b c : Byte) :
    secondaryUnitText (extractFlags b c) = textIf (b.getLsbD 5) "deg-C".toList "deg-F".toList := by
  rw [secondaryUnitText, extractFlags_deg]
  cases b.getLsbD 5 <;> rfl

/-! ### Justifying and joining (R152, R153) -/

theorem length_rjust (t : Text) (w : Nat) : (rjust t w).length = max w t.length := by
  rw [rjust, List.length_append, List.length_replicate, Nat.sub_add_eq_max]

theorem joinCommas_cons_cons (t u : Text) (rest : List Text) : joinCommas (t :: u :: rest) = t ++ ',' :: joinCommas (u :: rest) := rfl

theorem joinCommas_eq_intercalate (ts : List Text) : joinCommas ts = List.intercalate [','] ts := by
  induction ts using joinCommas.induct with
  | case1 => rfl
  | case2 t => exact List.intercalate_singleton.symm
  | case3 t u rest ih => rw [joinCommas_cons_cons, ih, List.intercalate_cons_cons]; simp

/-- One comma stands between each string and the next. -/
theorem length_joinCommas (ts : List Text) : (joinCommas ts).length = (ts.length - 1) + (ts.map List.length).sum := by
  induction ts using joinCommas.induct with
  | case1 => rfl
  | case2 t => simp [joinCommas]
  | case3 t u rest ih =>
    rw [joinCommas_cons_cons, List.length_append, List.length_cons, ih]
    simp only [List.length_cons, List.map_cons, List.sum_cons]
    omega

/-! ### The length of a rendered record (R155) -/

theorem length_fieldValues (r : SettingsFlags) : (fieldValues r).length = nFields := rfl

theorem length_renderText (r : SettingsFlags) (w : Nat) :
    (renderText r w).length = 12 + ((fieldValues r).map fun v => max w v.length).sum := by
  simp only [renderText, length_joinCommas, List.length_map, length_fieldValues, List.map_map, Function.comp_def, length_rjust]
  rfl

/-- The closed set of each field, by its place in the canonical order (R25); `inSets_iff_fieldAt_mem` ties it to `SettingsFlags.inSets`. -/
def closedStrings : Fin 13 → Finset Text :=
  ![{txtVEL, txtFLOW}, {txtC, txtF}, {txtMph, []}, {txtKnot, []}, {txtFtMin, []}, {txtKmh, []}, {txtMS, []}, {txtMax, []}, {txtMin, []},
    {txtAvg, []}, {txtTwoThird, []}, {txtCFM, txtCMM, []}, {txtHold, []}]

theorem inSets_iff_fieldAt_mem (r : SettingsFlags) : r.inSets = true ↔ ∀ i, fieldAt r i ∈ closedStrings i := by
  rw [inSets_iff, forall_fieldAt_mem_iff]
  simp [closedStrings]

/-- The longest string of the closed sets is `ft/min`. -/
theorem length_le_six_of_mem_closedStrings : ∀ i, ∀ t ∈ closedStrings i, t.length ≤ 6 := by decide

theorem length_le_six_of_inSets {r : SettingsFlags} (h : r.inSets = true) : ∀ v ∈ fieldValues r, v.length ≤ 6 := by
  rw [← ofFn_fieldAt, List.forall_mem_ofFn_iff]
  exact fun i => length_le_six_of_mem_closedStrings i _ ((inSets_iff_fieldAt_mem r).mp h i)

theorem length_renderText_of_inSets {r : SettingsFlags} {w : Nat} (hsets : r.inSets = true) (hw : 6 ≤ w) :
    (renderText r w).length = 13 * w + 12 := by
  have hfit : ∀ v ∈ fieldValues r, max w v.length = w := fun v hv => max_eq_left ((length_le_six_of_inSets hsets v hv).trans hw)
  calc (renderText r w).length
      = 12 + ((fieldValues r).map fun v => max w v.length).sum := length_renderText r w
    _ = 12 + ((fieldValues r).map fun _ => w).sum := by rw [List.map_congr_left hfit]
    _ = 12 + 13 * w := by rw [List.map_const', List.sum_replicate_nat, length_fieldValues]; rfl
    _ = 13 * w + 12 := Nat.add_comm _ _

/-! ### The statements -/

/-- Settles O39: the host function leaves the text in its own field alone. -/
theorem primaryUnitConcatenates : Obligations.PrimaryUnitConcatenates := by
  intro r s
  rw [exec_eq, State.afterInstr, primaryUnitText_eq_ite]
  rfl

/-- Settles O40, by the two values of `b[7]`. -/
theorem primaryUnitOfAProducedRecord : Obligations.PrimaryUnitOfAProducedRecord := fun _ c s =>
  ⟨_, exec_eq _ s, primaryUnitText_extractFlags_of_vel c, primaryUnitText_extractFlags_of_flow c⟩

/-- Settles O41: `deg` is one of the two strings chosen by `b[5]`. -/
theorem secondaryUnitIsDeg : Obligations.SecondaryUnitIsDeg :=
  ⟨fun _ => exec_eq _, fun b c s => ⟨_, exec_eq _ s, secondaryUnitText_extractFlags b c⟩⟩

/-- Settles O42: the recursion that joins is `List.intercalate`. -/
theorem renderJoinsJustifiedFields : Obligations.RenderJoinsJustifiedFields := by
  intro r w s
  simp only [Nat.zero_max]
  rw [exec_eq, State.afterInstr, renderText, joinCommas_eq_intercalate]
  rfl

/-- Settles O43: twelve commas and the thirteen widths; no string of the closed sets is longer than 6. -/
theorem renderLengthLaw : Obligations.RenderLengthLaw := fun r w s =>
  ⟨_, exec_eq _ s, length_renderText r w, length_renderText_of_inSets⟩

end Sys2Proof.Machine
end

section
/-!
PROOFS. The one exception and what is none (60_exceptions.md): the order of the checks on the signals, an evaluation after a `BadLength`, a
timeout, and the transport calls.
-/

namespace Sys2Proof.Machine

open Config

/-! ### A full frame buffer (R29, R35) -/

theorem Memory.wf_cons_cons {a b : Nat} {v w : Byte} {m : Memory} :
    Memory.wf ((a, v) :: (b, w) :: m) = true ↔ a < b ∧ Memory.wf ((b, w) :: m) = true := by
  rw [Memory.wf, Bool.and_eq_true, decide_eq_true_eq]

/-- Indices that rise strictly and stay below 8 leave room for the cells after the first. -/
theorem Memory.index_add_length_lt {a : Nat} {v : Byte} {m : Memory} (h : Memory.wf ((a, v) :: m) = true) :
    a + m.length < frameLen := by
  induction m generalizing a v with
  | nil => simpa [Memory.wf] using h
  | cons cell m ih =>
    obtain ⟨hlt, htail⟩ := Memory.wf_cons_cons.mp h
    have hroom := ih htail
    rw [List.length_cons]
    omega

/-- Where the cells fill all the room up to index 8, no index is left out. -/
theorem Memory.eq_cellsFrom {a : Nat} {v : Byte} {m : Memory} (h : Memory.wf ((a, v) :: m) = true)
    (hfull : a + m.length + 1 = frameLen) : (a, v) :: m = cellsFrom a (v :: m.map Prod.snd) := by
  induction m generalizing a v with
  | nil => rfl
  | cons cell m ih =>
    obtain ⟨b, w⟩ := cell
    obtain ⟨hlt, htail⟩ := Memory.wf_cons_cons.mp h
    have hroom := Memory.index_add_length_lt htail
    rw [List.length_cons] at hfull
    obtain rfl : b = a + 1 := by omega
    exact congrArg ((a, v) :: ·) (ih htail (by omega))

/-- A canonical buffer of 8 cells is the load of its bytes. -/
theorem Memory.eq_loadFrame {m : Memory} (h : Memory.wf m = true) (hlen : m.length = frameLen) : m = loadFrame (m.map Prod.snd) := by
  cases m with
  | nil => cases hlen
  | cons cell m =>
    obtain ⟨a, v⟩ := cell
    have hroom := Memory.index_add_length_lt h
    rw [List.length_cons] at hlen
    obtain rfl : a = 0 := by omega
    rw [loadFrame, List.take_of_length_le (by simp [hlen])]
    exact Memory.eq_cellsFrom h (by omega)

/-- Inputs that hold a frame of 8 bytes are the inputs of an event that delivers one. -/
theorem State.FrameHeld.exists_eq_driveBytes {s : State} (h : s.FrameHeld) (htimeout : s.rxTimeout = false) (hlen : s.rxLen = frameLen) :
    ∃ frame : List Byte, frame.length = frameLen ∧ s.driveBytes frame = s := by
  have hcells : s.frame.length = frameLen := by rw [h.length htimeout, hlen]; rfl
  have hbytes : (s.frame.map Prod.snd).length = frameLen := by rw [List.length_map, hcells]
  refine ⟨s.frame.map Prod.snd, hbytes, ?_⟩
  rw [State.driveBytes, hbytes, ← Memory.eq_loadFrame h.wf hcells, ← htimeout, ← hlen]

/-! ### An evaluation of the present inputs (R175) -/

theorem State.evaluate_of_rxTimeout {s : State} (h : s.rxTimeout = true) : s.evaluate = .ok .endOfStream := by
  rw [State.evaluate, if_pos h]

theorem State.evaluate_of_rxLen_ne {s : State} (htimeout : s.rxTimeout = false) (hlen : s.rxLen ≠ frameLen) :
    s.evaluate = .ok (.error .badLength) := by
  rw [State.evaluate, htimeout, if_neg Bool.false_ne_true, if_pos hlen]

theorem State.FrameHeld.evaluate_eq_reading {s : State} (h : s.FrameHeld) (htimeout : s.rxTimeout = false) (hlen : s.rxLen = frameLen) :
    ∃ r, s.evaluate = .ok (.reading r) := by
  obtain ⟨frame, hframe, hs⟩ := h.exists_eq_driveBytes htimeout hlen
  refine ⟨readingOfFrame frame, ?_⟩
  rw [← hs, State.evaluate_driveBytes, outcomeOf_of_length hframe]

/-! ### A transport call (R176) -/

theorem State.receiveEvent_of_answers_cons {s : State} {ev : RxEvent} {evs : List RxEvent} (h : s.answers = ev :: evs) :
    s.receiveEvent =
      { s with received := ev :: s.received, answers := evs, history := s.history ++ [.receive rxTimeoutMs ev] } := by
  simp only [State.receiveEvent, State.nextAnswer, State.record, h, List.headD_cons, List.tail_cons]

/-- With no answer left the receive times out, and the list stays empty (log 16). -/
theorem State.receiveEvent_of_answers_nil {s : State} (h : s.answers = []) :
    s.receiveEvent = { s with received := .timeout :: s.received, history := s.history ++ [.receive rxTimeoutMs .timeout] } := by
  simp only [State.receiveEvent, State.nextAnswer, State.record, h, List.headD_nil, List.tail_nil]

theorem step_send {s : State} {rest : List Action} (h : s.pending = .send :: rest) : step s = .next (s.withPending rest).sendCommand :=
  step_of_pending h

theorem step_recv {s : State} {rest : List Action} (h : s.pending = .recv :: rest) : step s = .next (s.withPending rest).receiveEvent :=
  step_of_pending h

/-! ### The statements -/

/-- Settles O20: the two checks in their order; past them the inputs are those of a delivered frame, whose decode answers. -/
theorem checksComeInOrder : Obligations.ChecksComeInOrder := fun _ =>
  ⟨State.evaluate_of_rxTimeout, State.evaluate_of_rxLen_ne, State.FrameHeld.evaluate_eq_reading⟩

/-- Settles O23: from the state after the error as from the one before it, the outcome is the event's. -/
theorem errorLeavesNothingBehind : Obligations.ErrorLeavesNothingBehind := by
  intro bs ev s hlen
  have hafter := ((s.driveBytes bs).driveNoReading true false).decodeFrame_outcome ev
  exact ⟨_, _, _, exec_decodeFrame_of_length_ne s hlen, exec_eq _ _, exec_eq _ s, hafter.trans (s.decodeFrame_outcome ev).symm⟩

/-- Settles O19: the flags, the absent reading and the frame of the state that `State.decodeFrame_timeout` gives. -/
theorem decodeFrameEndsTheStreamOnTimeout : Obligations.DecodeFrameEndsTheStreamOnTimeout := by
  intro s
  refine ⟨s.driveTimeout.driveNoReading false true, ?_, rfl, rfl, rfl, rfl, rfl⟩
  rw [exec_eq, State.decodeFrame_timeout]

/-- Settles O48, by the pending call and, for a receive, by whether an answer is left. -/
theorem transportCallsAreRecorded : Obligations.TransportCallsAreRecorded := by
  intro s rest
  refine ⟨step_send, fun ev evs hpending hanswers => ?_, fun hpending hanswers => ?_⟩
  · rw [step_recv hpending, State.receiveEvent_of_answers_cons (s := s.withPending rest) hanswers]
    rfl
  · rw [step_recv hpending, State.receiveEvent_of_answers_nil (s := s.withPending rest) hanswers]
    rfl

end Sys2Proof.Machine
end

section
/-!
PROOFS. The invariant that every step keeps (70_reset_and_hazards.md R195, R196): the part on the block's signals, which only operations and
clock edges touch, and the part on the caller's side of the run, which only the caller's actions touch.
-/

namespace Sys2Proof.Machine

open Config

/-! ### The two parts of the invariant -/

/-- The part of the invariant on the block's signals; `State.inv_iff` ties it to the invariant. -/
structure State.SignalsInv (s : State) : Prop where
  outputs : s.OutputsFollow
  frame : s.FrameHeld
  txData : s.txData = commandWord s.cmdSel
  decfp24 : s.decfp24.mant = s.decfp24.t.extractLsb' 8 16 ∧ s.decfp24.exp = s.decfp24.t.extractLsb' 0 8
  flagx : s.flagx.settings = packSettings (extractFlags s.flagx.b s.flagx.c)
  outReg : s.outReg.Sound

/-- The part of the invariant on the caller's side of the run; `State.inv_iff` ties it to the invariant. -/
structure State.CallerInv (s : State) : Prop where
  sent : ∀ w, Interaction.send w ∈ s.history → w = 0xB300000000000000#64 ∨ w = 0xC400000000000000#64
  caller : s.CallerHeld
  collected : DecodeOutcome.endOfStream ∉ s.collected

theorem State.inv_iff {s : State} : s.Inv ↔ s.SignalsInv ∧ s.CallerInv :=
  ⟨fun h => ⟨⟨h.outputs, h.frame, h.txData, h.decfp24, h.flagx, h.outReg⟩, ⟨h.sent, h.caller, h.collected⟩⟩,
    fun ⟨hsignals, hcaller⟩ => ⟨hsignals.outputs, hsignals.frame, hsignals.txData, hsignals.decfp24, hsignals.flagx, hcaller.sent,
      hcaller.caller, hcaller.collected, hsignals.outReg⟩⟩

/-! ### The signals (R195, R196) -/

section
variable {s t : State}

theorem State.OutputsFollow.congr (h : s.OutputsFollow) (htimeout : t.rxTimeout = s.rxTimeout) (hlen : t.rxLen = s.rxLen)
    (hframe : t.frame = s.frame) (hout : t.out = s.out) : t.OutputsFollow where
  endOfStream := by rw [hout, htimeout, h.endOfStream]
  errBadLength := by rw [hout, htimeout, hlen, h.errBadLength]
  ok := by rw [hout, htimeout, hlen, h.ok]
  data := by rw [hout, hframe]; exact h.data

theorem State.FrameHeld.congr (h : s.FrameHeld) (htimeout : t.rxTimeout = s.rxTimeout) (hlen : t.rxLen = s.rxLen)
    (hframe : t.frame = s.frame) : t.FrameHeld where
  wf := by rw [hframe, h.wf]
  noneOnTimeout := by rw [htimeout, hframe]; exact h.noneOnTimeout
  length := by rw [htimeout, hframe, hlen]; exact h.length

/-- An event drives a canonical buffer of the length delivered, whatever was in it. -/
theorem State.frameHeld_driveEvent (s : State) (ev : RxEvent) : (s.driveEvent ev).FrameHeld where
  wf := s.driveEvent_frame_wf ev
  noneOnTimeout htimeout := by
    cases ev with
    | bytes bs => cases htimeout
    | timeout => rfl
  length htimeout := by
    cases ev with
    | bytes bs => exact loadFrame_length bs
    | timeout => cases htimeout

/-- An outcome is driven on the outputs and leaves the inputs alone. -/
theorem State.driveOutcome_inputs (s : State) (o : DecodeOutcome) :
    (s.driveOutcome o).rxTimeout = s.rxTimeout ∧ (s.driveOutcome o).rxLen = s.rxLen ∧ (s.driveOutcome o).frame = s.frame := by
  cases o with
  | reading r => exact ⟨rfl, rfl, rfl⟩
  | error e => cases e; exact ⟨rfl, rfl, rfl⟩
  | endOfStream => exact ⟨rfl, rfl, rfl⟩

theorem State.frameHeld_decodeFrame (s : State) (ev : RxEvent) : (s.afterInstr (.decodeFrame ev)).FrameHeld :=
  have ⟨htimeout, hlen, hframe⟩ := (s.driveEvent ev).driveOutcome_inputs (outcomeOf ev)
  (s.frameHeld_driveEvent ev).congr htimeout hlen hframe

/-- After an evaluation the outputs are the function of its event's inputs, whatever they were before (R130, R175). -/
theorem State.outputsFollow_decodeFrame (s : State) (ev : RxEvent) : (s.afterInstr (.decodeFrame ev)).OutputsFollow := by
  cases ev with
  | timeout => exact ⟨rfl, rfl, rfl, Bool.noConfusion⟩
  | bytes bs =>
    by_cases hlen : bs.length = frameLen
    · rw [s.decodeFrame_of_length hlen]
      exact ⟨rfl, by simp [hlen], by simp [hlen], fun _ => ⟨bs, hlen, rfl, rfl⟩⟩
    · rw [s.decodeFrame_of_length_ne hlen]
      exact ⟨rfl, by simp [hlen], by simp [hlen], Bool.noConfusion⟩

/-- Outputs that follow the inputs are such as an evaluation gives. -/
theorem State.OutputsFollow.sound (h : s.OutputsFollow) : s.out.Sound where
  exclusive := by
    have exclusive : ∀ timeout full : Bool, [!timeout && full, !timeout && !full, timeout].count true ≤ 1 := by decide
    rw [h.ok, h.errBadLength, h.endOfStream]
    exact exclusive _ _
  data hok :=
    have ⟨frame, hlen, _, hout⟩ := h.data hok
    ⟨frame, hlen, hout⟩

/-- A register after its reset shows no outcome (R196). -/
theorem Outputs.unspecified_sound (n : Nat) : (Outputs.unspecified false false n).Sound where
  exclusive := by simp
  data hok := Bool.noConfusion hok

theorem State.SignalsInv.clockEdge (h : s.SignalsInv) (rst : Bool) : (s.clockEdge rst).SignalsInv := by
  cases hreg : s.outRegPresent with
  | false => rwa [State.clockEdge_absent s rst hreg]
  | true =>
    cases rst with
    | false =>
      rw [State.clockEdge_latch s hreg]
      exact ⟨h.outputs.congr rfl rfl rfl rfl, h.frame.congr rfl rfl rfl, h.txData, h.decfp24, h.flagx, h.outputs.sound⟩
    | true =>
      rw [State.clockEdge_reset s hreg]
      exact ⟨h.outputs.congr rfl rfl rfl rfl, h.frame.congr rfl rfl rfl, h.txData, h.decfp24, h.flagx, Outputs.unspecified_sound _⟩

/-- Each operation drives its own signals from its own operands. -/
theorem State.SignalsInv.afterInstr (h : s.SignalsInv) (i : Instr) : (s.afterInstr i).SignalsInv := by
  cases i with
  | decodeFrame ev =>
    have houtputs := s.outputsFollow_decodeFrame ev
    have hframe := s.frameHeld_decodeFrame ev
    obtain ⟨_, _, _, _, _, hafter⟩ := s.decodeFrame_frame ev
    rw [hafter] at houtputs hframe ⊢
    exact ⟨houtputs, hframe, h.txData, h.decfp24, h.flagx, h.outReg⟩
  | readCurrent | readRecordsStart =>
    exact ⟨h.outputs.congr rfl rfl rfl rfl, h.frame.congr rfl rfl rfl, rfl, h.decfp24, h.flagx, h.outReg⟩
  | decodeValue24 b0 b1 b2 =>
    have hwired : (s.driveDecfp24 b0 b1 b2).decfp24.mant = (s.driveDecfp24 b0 b1 b2).decfp24.t.extractLsb' 8 16 ∧
        (s.driveDecfp24 b0 b1 b2).decfp24.exp = (s.driveDecfp24 b0 b1 b2).decfp24.t.extractLsb' 0 8 := by
      rw [State.driveDecfp24, ofNat_natOfBytes_triplet]
      exact ⟨mantBits_eq_extractLsb' b0 b1 b2, expBits_eq_extractLsb' b0 b1 b2⟩
    exact ⟨h.outputs.congr rfl rfl rfl rfl, h.frame.congr rfl rfl rfl, h.txData, hwired, h.flagx, h.outReg⟩
  | extractFlags b c =>
    exact ⟨h.outputs.congr rfl rfl rfl rfl, h.frame.congr rfl rfl rfl, h.txData, h.decfp24, rfl, h.outReg⟩
  | primaryUnit | secondaryUnit | render =>
    exact ⟨h.outputs.congr rfl rfl rfl rfl, h.frame.congr rfl rfl rfl, h.txData, h.decfp24, h.flagx, h.outReg⟩

theorem State.SignalsInv.record (h : s.SignalsInv) (c : Interaction) : (s.record c).SignalsInv :=
  ⟨h.outputs.congr rfl rfl rfl rfl, h.frame.congr rfl rfl rfl, h.txData, h.decfp24, h.flagx, h.outReg⟩

/-- The caller's own actions leave the signals alone; the others run an operation or clock the register. -/
theorem State.SignalsInv.of_actionEffect {a : Action} (h : s.SignalsInv) (effect : ActionEffect s t a) : t.SignalsInv := by
  cases effect with
  | ran r i hreq hdecode hexec => exact eq_afterInstr_of_exec hexec ▸ h.afterInstr i
  | decoded back ev hev hexec => exact eq_afterInstr_of_exec hexec ▸ (h.record _).afterInstr _
  | clocked rst ht => exact ht ▸ h.clockEdge rst
  | stopped ho ht => exact ht ▸ h
  | sent ht | received ht | began ht | wentRound o ho hne ht =>
    subst ht
    exact ⟨h.outputs.congr rfl rfl rfl rfl, h.frame.congr rfl rfl rfl, h.txData, h.decfp24, h.flagx, h.outReg⟩

/-! ### The caller's phase along a run (R208) -/

/-- The numbers of the events of the streams so far. -/
abbrev CallerPhase.events (p : CallerPhase) : List Nat := p.streams.flatMap StreamPhase.events

/-- A phase after `n` receives whose streams' events are distinct ones of them; `State.callerHeld_iff` ties it to the invariant. -/
structure CallerPhase.Counts (p : CallerPhase) (n : Nat) : Prop where
  receives : p.receives = n
  received : ∀ m ∈ p.events, m < p.receives
  distinct : p.events.Nodup

theorem State.callerHeld_iff : s.CallerHeld ↔
    (∀ receive ev, Interaction.evaluate receive ev ∈ s.history → s.received.reverse[receive]? = some ev) ∧
      ∀ p, s.callerPhase = some p → p.Counts s.received.length :=
  ⟨fun h => ⟨h.unaltered, fun p hp => ⟨h.receives p hp, h.received p hp, h.distinct p hp⟩⟩,
    fun ⟨hunaltered, hcounts⟩ => ⟨hunaltered, fun p hp => (hcounts p hp).receives, fun p hp => (hcounts p hp).received,
      fun p hp => (hcounts p hp).distinct⟩⟩

variable {p q : CallerPhase} {n : Nat}

/-- A send begins a stream without events, or none. -/
theorem CallerPhase.afterSend_eq_some {frame : BitVec 64} (h : p.afterSend frame = some q) :
    q.receives = p.receives ∧ q.events = p.events := by
  unfold CallerPhase.afterSend at h
  split at h
  next => cases h
  next =>
    split at h
    next => cases h; exact ⟨rfl, rfl⟩
    next =>
      split at h
      next => cases h; exact ⟨rfl, rfl⟩
      next => cases h

/-- A receive adds its number to the events of the latest stream, or to none. -/
theorem CallerPhase.afterReceive_events (p : CallerPhase) (answer : RxEvent) : (p.afterReceive answer).events = p.events ∨
    ∃ before after, p.events = before ++ after ∧ (p.afterReceive answer).events = before ++ p.receives :: after := by
  obtain ⟨commandOpen, receives, streams⟩ := p
  cases streams with
  | nil => exact .inl rfl
  | cons latest past =>
    simp only [CallerPhase.events, CallerPhase.afterReceive, List.flatMap_cons, StreamPhase.afterReceive_events]
    cases latest.running with
    | false => exact .inl rfl
    | true => exact .inr ⟨latest.events, past.flatMap StreamPhase.events, rfl, by simp⟩

theorem CallerPhase.afterEvaluate_events {receive : Nat} {ev : RxEvent} (h : p.afterEvaluate receive ev = some q) :
    q.receives = p.receives ∧ q.events = p.events := by
  obtain ⟨-, rfl⟩ := CallerPhase.afterEvaluate_eq_some h
  exact ⟨rfl, by simp [CallerPhase.events, List.flatMap_map]⟩

theorem CallerPhase.Counts.congr (h : p.Counts n) (hq : q.receives = p.receives ∧ q.events = p.events) : q.Counts n := by
  obtain ⟨hreceives, hevents⟩ := hq
  exact ⟨hreceives.trans h.receives, by rw [hreceives, hevents]; exact h.received, by rw [hevents]; exact h.distinct⟩

/-- The number of a receive is larger than those of the events before it. -/
theorem CallerPhase.Counts.afterReceive (h : p.Counts n) (answer : RxEvent) : (p.afterReceive answer).Counts (n + 1) := by
  have hcount : (p.afterReceive answer).receives = n + 1 := congrArg Nat.succ h.receives
  have hlast : p.receives < n + 1 := h.receives ▸ Nat.lt_succ_self _
  have hbefore : ∀ m ∈ p.events, m < n + 1 := fun m hm => (h.received m hm).trans hlast
  obtain hsame | ⟨before, after, hsplit, hnew⟩ := p.afterReceive_events answer
  · exact ⟨hcount, by rwa [hsame, hcount], by rw [hsame]; exact h.distinct⟩
  · have hperm : (p.afterReceive answer).events.Perm (p.receives :: p.events) := by
      rw [hnew, hsplit]
      exact List.perm_middle
    have hreceived : ∀ m ∈ p.receives :: p.events, m < n + 1 := List.forall_mem_cons.mpr ⟨hlast, hbefore⟩
    have hdistinct : (p.receives :: p.events).Nodup := List.nodup_cons.mpr ⟨fun hm => Nat.lt_irrefl _ (h.received _ hm), h.distinct⟩
    exact ⟨hcount, fun m hm => hcount ▸ hreceived m (hperm.mem_iff.mp hm), hperm.nodup_iff.mpr hdistinct⟩

/-! ### What the caller holds along a run (R208) -/

/-- One more interaction keeps what the caller holds in agreement with the history, where it does so with the phase and its own event. -/
theorem State.CallerHeld.snoc {c : Interaction} (h : s.CallerHeld) (hhistory : t.history = s.history ++ [c])
    (hheld : ∀ (receive : Nat) ev, s.received.reverse[receive]? = some ev → t.received.reverse[receive]? = some ev)
    (hcall : ∀ receive ev, c = .evaluate receive ev → t.received.reverse[receive]? = some ev)
    (hphase : ∀ p q : CallerPhase, p.Counts s.received.length → p.after c = some q → q.Counts t.received.length) : t.CallerHeld := by
  obtain ⟨hunaltered, hcounts⟩ := State.callerHeld_iff.mp h
  refine State.callerHeld_iff.mpr ⟨fun receive ev hmem => ?_, fun q hq => ?_⟩
  · rw [hhistory, List.mem_append, List.mem_singleton] at hmem
    exact hmem.elim (fun hmem => hheld receive ev (hunaltered receive ev hmem)) fun hc => hcall receive ev hc.symm
  · rw [State.callerPhase_of_history_snoc hhistory] at hq
    obtain ⟨p, hp, hq⟩ := Option.bind_eq_some_iff.mp hq
    exact hphase p q (hcounts p hp) hq

theorem State.CallerHeld.sendCommand (h : s.CallerHeld) : s.sendCommand.CallerHeld :=
  h.snoc (c := .send s.txData) rfl (fun _ _ => id) (fun _ _ => Interaction.noConfusion)
    fun _ _ hp hq => hp.congr (CallerPhase.afterSend_eq_some hq)

/-- A receive adds its event as the last one held, whose number is that of the receive. -/
theorem State.CallerHeld.receiveEvent (h : s.CallerHeld) : s.receiveEvent.CallerHeld :=
  h.snoc (c := .receive rxTimeoutMs s.nextAnswer) rfl
    (fun receive ev hev => by
      rw [State.receiveEvent_received, List.reverse_cons, List.getElem?_append_left (List.getElem?_eq_some_iff.mp hev).1, hev])
    (fun _ _ => Interaction.noConfusion)
    fun _ _ hp hq => Option.some.inj hq ▸ hp.afterReceive s.nextAnswer

/-- The number of an event's receive finds it among the events held, the oldest first. -/
theorem State.getElem?_reverse_receiveNumber {back : Nat} {ev : RxEvent} (h : s.received[back]? = some ev) :
    s.received.reverse[s.receiveNumber back]? = some ev := by
  have hback : back < s.received.length := (List.getElem?_eq_some_iff.mp h).1
  rw [State.receiveNumber, List.getElem?_reverse (by omega), ← h]
  congr 1
  omega

theorem State.CallerHeld.record_evaluate (h : s.CallerHeld) {back : Nat} {ev : RxEvent} (hev : s.received[back]? = some ev) :
    (s.record (.evaluate (s.receiveNumber back) ev)).CallerHeld :=
  h.snoc (c := .evaluate (s.receiveNumber back) ev) rfl (fun _ _ => id)
    (fun receive ev' hc => by
      obtain ⟨rfl, rfl⟩ := Interaction.evaluate.inj hc
      exact State.getElem?_reverse_receiveNumber hev)
    fun _ _ hp hq => hp.congr (CallerPhase.afterEvaluate_events hq)

/-! ### The caller's side (R67, R70, R208) -/

theorem State.sameCallerSide_afterInstr (s : State) (i : Instr) : s.SameCallerSide (s.afterInstr i) := by
  cases i with
  | decodeFrame ev => exact s.sameCallerSide_decodeFrame ev
  | readCurrent | readRecordsStart | decodeValue24 | extractFlags | primaryUnit | secondaryUnit | render =>
    exact ⟨rfl, rfl, rfl, rfl, rfl, rfl⟩

theorem State.CallerInv.of_sameCallerSide (h : s.CallerInv) (hside : s.SameCallerSide t) : t.CallerInv where
  sent := by rw [hside.history]; exact h.sent
  caller := h.caller.of_history hside.history hside.received
  collected := by rw [hside.collected]; exact h.collected

theorem commandWord_eq_or (sel : Bool) : commandWord sel = 0xB300000000000000#64 ∨ commandWord sel = 0xC400000000000000#64 := by
  cases sel with
  | false => exact .inl commandWord_false
  | true => exact .inr commandWord_true

/-- `tx_data` is one of the two constants, so a send hands over one of them (R67). -/
theorem State.CallerInv.sendCommand (h : s.CallerInv) (htx : s.txData = commandWord s.cmdSel) : s.sendCommand.CallerInv where
  sent w hmem := by
    rw [State.sendCommand_history, List.mem_append, List.mem_singleton] at hmem
    refine hmem.elim (h.sent w) fun hw => ?_
    rw [Interaction.send.inj hw, htx]
    exact commandWord_eq_or s.cmdSel
  caller := h.caller.sendCommand
  collected := h.collected

theorem State.CallerInv.receiveEvent (h : s.CallerInv) : s.receiveEvent.CallerInv where
  sent w hmem := h.sent w (by simpa using hmem)
  caller := h.caller.receiveEvent
  collected := h.collected

theorem State.CallerInv.record_evaluate (h : s.CallerInv) {back : Nat} {ev : RxEvent} (hev : s.received[back]? = some ev) :
    (s.record (.evaluate (s.receiveNumber back) ev)).CallerInv where
  sent w hmem := h.sent w (by simpa using hmem)
  caller := h.caller.record_evaluate hev
  collected := h.collected

theorem State.CallerInv.emptyList (h : s.CallerInv) : s.emptyList.CallerInv :=
  ⟨h.sent, h.caller.of_history rfl rfl, List.not_mem_nil⟩

theorem State.CallerInv.collectOutcome (h : s.CallerInv) {o : DecodeOutcome} (hne : o ≠ .endOfStream) : (s.collectOutcome o).CallerInv :=
  ⟨h.sent, h.caller.of_history rfl rfl, by simpa using ⟨h.collected, hne.symm⟩⟩

theorem State.CallerInv.of_actionEffect {a : Action} (h : s.CallerInv) (htx : s.txData = commandWord s.cmdSel)
    (effect : ActionEffect s t a) : t.CallerInv := by
  cases effect with
  | ran r i hreq hdecode hexec => exact h.of_sameCallerSide (eq_afterInstr_of_exec hexec ▸ s.sameCallerSide_afterInstr i)
  | decoded back ev hev hexec =>
    exact (h.record_evaluate hev).of_sameCallerSide (eq_afterInstr_of_exec hexec ▸ State.sameCallerSide_afterInstr _ _)
  | sent ht => exact ht ▸ h.sendCommand htx
  | received ht => exact ht ▸ h.receiveEvent
  | began ht => exact ht ▸ h.emptyList
  | stopped ho ht => exact ht ▸ h
  | wentRound o ho hne ht => exact ht ▸ h.collectOutcome hne
  | clocked rst ht => exact ht ▸ h.of_sameCallerSide (s.sameCallerSide_clockEdge rst)

end

/-! ### The statement -/

/-- Settles O58, by the cases of what an action can do, for each part of the invariant. -/
theorem everyStepKeepsTheInvariant : Obligations.EveryStepKeepsTheInvariant := by
  intro s t hinv hstep
  rcases step_next hstep with ⟨-, rfl⟩ | ⟨a, rest, -, effect⟩
  · exact hinv
  · obtain ⟨hsignals, hcaller⟩ := State.inv_iff.mp (hinv.withPending rest)
    exact State.inv_iff.mpr ⟨hsignals.of_actionEffect effect, hcaller.of_actionEffect hsignals.txData effect⟩

end Sys2Proof.Machine
end

section
/-!
PROOFS. The output register, the host functions on a reading, and the steps that complete (70_reset_and_hazards.md R196, R199, R207).
-/

namespace Sys2Proof.Machine

open Config

/-! ### The output register (R196) -/

theorem State.visibleOutputs_decodeFrame_of_present {s : State} (hreg : s.outRegPresent = true) (ev : RxEvent) :
    (s.afterInstr (.decodeFrame ev)).visibleOutputs = s.visibleOutputs := by
  obtain ⟨_, _, _, _, _, hframe⟩ := s.decodeFrame_frame ev
  rw [hframe, State.visibleOutputs_present s hreg]
  exact State.visibleOutputs_present _ hreg

/-- Settles O45: the register latches or resets on the state without the action. -/
theorem clockEdgeLatchesOrResets : Obligations.ClockEdgeLatchesOrResets := by
  intro s rest hreg
  refine ⟨fun hpending => ?_, fun hpending => ⟨(s.withPending rest).resetOutReg, ?_, rfl, rfl, rfl, rfl⟩⟩
  · calc step s = .next ((s.withPending rest).clockEdge false) := step_of_pending hpending
      _ = .next (s.withPending rest).latchOutReg := by rw [State.clockEdge_latch (s.withPending rest) hreg]
  · calc step s = .next ((s.withPending rest).clockEdge true) := step_of_pending hpending
      _ = .next (s.withPending rest).resetOutReg := by rw [State.clockEdge_reset (s.withPending rest) hreg]

/-- Settles O46: the evaluation drives the outcome on the combinational outputs, and the next edge shows them. -/
theorem outputsAppearAtOnceOrAtTheNextEdge : Obligations.OutputsAppearAtOnceOrAtTheNextEdge := by
  intro ev s
  have houtcome := s.decodeFrame_outcome ev
  refine ⟨_, exec_eq (.decodeFrame ev) s, fun hreg => ?_, fun hreg => ⟨State.visibleOutputs_decodeFrame_of_present hreg ev, fun rest => ?_⟩⟩
  · rwa [State.visibleOutputs_absent _ ((s.afterInstr_outRegPresent _).trans hreg)]
  · have hstep := step_of_pending (s := (s.afterInstr (.decodeFrame ev)).withPending (.clockEdge false :: rest)) rfl
    refine ⟨_, hstep, ?_⟩
    rwa [State.visibleOutputs_clockEdge]

/-! ### The host functions of the present reading (R199, U2) -/

theorem onReading_of_ok_eq_false {s : State} (h : s.visibleOutputs.ok = false) (iface : Iface) : onReading iface s = .refused .noReading := by
  rw [onReading, h, if_neg Bool.false_ne_true]

/-- A host function on the reading the caller sees runs the operation that the reading's settings encode. -/
theorem onReading_of_encode {s : State} {r : DecodedReading} {iface : Iface} {i : Instr} (hvisible : s.visibleOutputs = Outputs.ofReading r)
    (hwf : wellFormed i = true) (hencode : encode i = { iface := iface, bytes := settingsBytes (packSettings r.settings) }) :
    onReading iface s = exec i s := by
  rw [onReading, if_pos (by rw [hvisible, Outputs.ofReading_ok]), hvisible, Outputs.ofReading_settings, ← hencode]
  exact runRequest_of_decode_ok (decodeOfEncodeIsTheInstruction i hwf) s

/-- Settles O10: the record of a frame is one the block produces, so its vector decodes to it. -/
theorem hostFunctionsRunOnTheReadingsRecord : Obligations.HostFunctionsRunOnTheReadingsRecord := by
  intro s rest f0 f1 f2 f3 f4 f5 f6 f7 w hvisible
  have hruns : ∀ (iface : Iface) (i : Instr), wellFormed i = true →
      encode i = { iface := iface, bytes := settingsBytes (packSettings (extractFlags f0 f1)) } →
      onReading iface (s.withPending rest) = exec i (s.withPending rest) :=
    fun _ _ => onReading_of_encode (r := readingOf f0 f1 f2 f3 f4 f5 f6 f7) hvisible
  have hwf : (extractFlags f0 f1).reachable = true := extractFlags_reachable f0 f1
  exact ⟨fun hpending => (step_of_pending hpending).trans (hruns .primaryUnit (.primaryUnit _) hwf rfl),
    fun hpending => (step_of_pending hpending).trans (hruns .secondaryUnit (.secondaryUnit _) hwf rfl),
    fun hpending => (step_of_pending hpending).trans (hruns (.render w) (.render _ w) hwf rfl)⟩

/-- Settles O11. -/
theorem noReadingIsUsedWithoutOk : Obligations.NoReadingIsUsedWithoutOk := by
  intro s rest w hok
  have hrefused : ∀ iface, onReading iface (s.withPending rest) = .refused .noReading := onReading_of_ok_eq_false (s := s.withPending rest) hok
  exact ⟨fun hpending => (step_of_pending hpending).trans (hrefused _), fun hpending => (step_of_pending hpending).trans (hrefused _),
    fun hpending => (step_of_pending hpending).trans (hrefused _)⟩

/-! ### What completes (R207) -/

/-- A host function on a sound reading completes: the reading is a frame's, whose record the block produces. -/
theorem exists_onReading_eq_next {s : State} {iface : Iface} (hsound : s.visibleOutputs.Sound) (hok : s.visibleOutputs.ok = true)
    (hostFunction : SettingsFlags → Instr) (hwf : ∀ r, wellFormed (hostFunction r) = r.reachable)
    (hencode : ∀ r, encode (hostFunction r) = { iface := iface, bytes := settingsBytes (packSettings r) }) :
    ∃ t, onReading iface s = .next t := by
  obtain ⟨frame, -, hframe⟩ := hsound.data hok
  have hreachable : (readingOfFrame frame).settings.reachable = true := extractFlags_reachable _ _
  exact ⟨_, (onReading_of_encode hframe ((hwf _).trans hreachable) (hencode _)).trans (exec_eq _ s)⟩

/-- A round of `READ_ALL` completes over outputs that show an outcome. -/
theorem exists_runAction_collect_eq_next {s : State} (hsound : s.visibleOutputs.Sound)
    (hflag : s.visibleOutputs.ok = true ∨ s.visibleOutputs.errBadLength = true ∨ s.visibleOutputs.endOfStream = true) :
    ∃ t, runAction .collect s = .next t := by
  rcases or_assoc.mpr hflag with hflag | heos
  · obtain ⟨o, ho, hne⟩ := hsound.outcome_ne_endOfStream hflag
    exact ⟨_, runAction_collect_goesRound ho hne⟩
  · exact ⟨_, runAction_collect_endOfStream (hsound.outcome_of_endOfStream heos)⟩

/-- Settles O59, by the pending action. -/
theorem readyStepsComplete : Obligations.ReadyStepsComplete := by
  intro s hsound hready
  cases hpending : s.pending with
  | nil => exact ⟨s, by rw [step, runPending, hpending]⟩
  | cons a rest =>
    rw [step_of_pending hpending]
    rw [State.Ready, hpending] at hready
    cases a with
    | invoke r =>
      obtain ⟨i, hdecode⟩ := hready
      exact ⟨_, (runRequest_of_decode_ok hdecode _).trans (exec_eq i _)⟩
    | decodeReceived back =>
      exact ⟨_, (runAction_decodeReceived (s := s.withPending rest) (List.getElem?_eq_getElem hready)).trans (exec_eq _ _)⟩
    | primaryUnitOfReading => exact exists_onReading_eq_next (s := s.withPending rest) hsound hready .primaryUnit (fun _ => rfl) fun _ => rfl
    | secondaryUnitOfReading => exact exists_onReading_eq_next (s := s.withPending rest) hsound hready .secondaryUnit (fun _ => rfl) fun _ => rfl
    | renderReading w => exact exists_onReading_eq_next (s := s.withPending rest) hsound hready (.render · w) (fun _ => rfl) fun _ => rfl
    | collect => exact exists_runAction_collect_eq_next (s := s.withPending rest) hsound hready
    | send | recv | newList | clockEdge => exact ⟨_, rfl⟩

end Sys2Proof.Machine
end

section
/-!
PROOFS. The caller's duties of order (70_reset_and_hazards.md R200, R205, R208): what each interaction of a step makes of the caller's phase,
and when a caller with nothing left to do has kept its duties.
-/

namespace Sys2Proof.Machine

open Config

/-! ### The phase after a step (R208) -/

section
variable {s t : State} {p : CallerPhase} {rest : List Action}

theorem step_callerPhase_of_nextCall {c : Interaction} (hphase : s.callerPhase = some p) (hcall : s.nextCall = some c)
    (hstep : step s = .next t) : t.callerPhase = p.after c := by
  have hhistory : t.history = s.history ++ [c] := by rw [step_history hstep, hcall, Option.toList_some]
  rw [State.callerPhase_of_history_snoc hhistory, hphase, Option.bind_some]

theorem step_send_callerPhase (hphase : s.callerPhase = some p) (hpending : s.pending = .send :: rest) (hstep : step s = .next t) :
    t.callerPhase = p.afterSend s.txData :=
  step_callerPhase_of_nextCall hphase (c := .send s.txData) (by rw [State.nextCall, hpending]; rfl) hstep

theorem step_recv_callerPhase (hphase : s.callerPhase = some p) (hpending : s.pending = .recv :: rest) (hstep : step s = .next t) :
    t.callerPhase = some (p.afterReceive s.nextAnswer) :=
  step_callerPhase_of_nextCall hphase (c := .receive rxTimeoutMs s.nextAnswer) (by rw [State.nextCall, hpending]; rfl) hstep

/-- A step that decodes a received event holds it, and passes it under the number of its receive. -/
theorem step_decodeReceived_callerPhase {back : Nat} (hphase : s.callerPhase = some p) (hpending : s.pending = .decodeReceived back :: rest)
    (hstep : step s = .next t) :
    ∃ ev, s.received[back]? = some ev ∧ t.callerPhase = p.afterEvaluate (s.receiveNumber back) ev := by
  cases hev : s.received[back]? with
  | none =>
    rw [(stepDecodesTheReceivedEvent s back rest hpending).2 hev] at hstep
    cases hstep
  | some ev =>
    have hcall : s.nextCall = some (.evaluate (s.receiveNumber back) ev) := by
      rw [State.nextCall, hpending, List.head?_cons, Option.bind_some, State.callOf, hev, Option.map_some]
    exact ⟨ev, rfl, step_callerPhase_of_nextCall hphase hcall hstep⟩

/-- An operation invoked on an operand written out is no interaction of the caller's duties (log 28). -/
theorem step_invoke_callerPhase {r : Request} (hpending : s.pending = .invoke r :: rest) (hstep : step s = .next t) :
    t.callerPhase = s.callerPhase := by
  have hcall : s.nextCall = none := by rw [State.nextCall, hpending]; rfl
  exact State.callerPhase_of_history (by rw [step_history hstep, hcall, Option.toList_none, List.append_nil])

end

/-! ### A receive (R200) -/

theorem StreamPhase.afterReceive_of_running {st : StreamPhase} (h : st.running = true) (receive : Nat) (answer : RxEvent) :
    st.afterReceive receive answer =
      { st with running := decide (answer ≠ .timeout), owed := st.owed ++ [receive], lastWasBad := false } := if_pos h

/-- A stream that has ended gets no more events. -/
theorem StreamPhase.afterReceive_of_settled {st : StreamPhase} (h : st.settled = true) (receive : Nat) (answer : RxEvent) :
    st.afterReceive receive answer = st := by
  have hended : st.running = false := by simpa using (Bool.and_eq_true_iff.mp h).1
  rw [StreamPhase.afterReceive, hended, if_neg Bool.false_ne_true]

theorem CallerPhase.afterReceive_settled {p : CallerPhase} (h : p.settled = true) (answer : RxEvent) :
    (p.afterReceive answer).settled = true := by
  obtain ⟨commandOpen, receives, streams⟩ := p
  cases streams with
  | nil => rfl
  | cons latest past =>
    have hlatest : latest.settled = true := List.all_eq_true.mp h latest List.mem_cons_self
    simp only [CallerPhase.afterReceive, StreamPhase.afterReceive_of_settled hlatest]
    exact h

/-- Settles O50: a receive breaks no duty, and leaves settled streams settled. -/
theorem receivingKeepsTheDuties : Obligations.ReceivingKeepsTheDuties := by
  rintro s t rest abort ⟨p, hphase, -⟩ hsettled hpending hstep
  have hafter := step_recv_callerPhase hphase hpending hstep
  have hrest : t.pending = rest := by
    rw [step_recv hpending] at hstep
    rw [← Host.Outcome.next.inj hstep]
    rfl
  by_cases hidle : rest = []
  · obtain ⟨q, hq, hsettled⟩ := hsettled hidle
    obtain rfl : p = q := Option.some.inj (hphase.symm.trans hq)
    exact State.dutiesKept_of_settled abort hafter (CallerPhase.afterReceive_settled hsettled _)
  · exact State.dutiesKept_of_pending_ne_nil abort hafter (hrest ▸ hidle)

/-! ### An evaluation (R208) -/

/-- Evaluating the oldest event owed pays for it. -/
theorem StreamPhase.afterEvaluate_of_owed {st : StreamPhase} {n : Nat} {later : List Nat} (h : st.owed = n :: later) (ev : RxEvent) :
    st.afterEvaluate n ev =
      { st with owed := later, passed := st.passed ++ [n], lastWasBad := decide (outcomeOf ev = .error .badLength) } := by
  rw [StreamPhase.afterEvaluate, h]
  exact if_pos rfl

theorem StreamPhase.forbids_iff {st : StreamPhase} {n : Nat} : st.forbids n = true ↔ n ∈ st.passed ∨ n ∈ st.owed.tail := by
  rw [StreamPhase.forbids, Bool.or_eq_true, List.contains_iff_mem, List.contains_iff_mem]

theorem CallerPhase.afterEvaluate_of_forbids {p : CallerPhase} {n : Nat} {st : StreamPhase} (hst : st ∈ p.streams)
    (h : st.forbids n = true) (ev : RxEvent) : p.afterEvaluate n ev = none :=
  if_pos (List.any_eq_true.mpr ⟨st, hst, h⟩)

/-- The oldest event owed has not been evaluated and is no later one, since a stream's events are distinct. -/
theorem StreamPhase.forbids_of_owed {st : StreamPhase} {n : Nat} {later : List Nat} (hdistinct : st.events.Nodup)
    (h : st.owed = n :: later) : st.forbids n = false := by
  rw [StreamPhase.events, h, List.nodup_middle, List.nodup_cons, List.mem_append] at hdistinct
  rw [Bool.eq_false_iff, ne_eq, StreamPhase.forbids_iff, h]
  exact hdistinct.1

/-- An event belongs to one stream. -/
theorem CallerPhase.eq_of_mem_events {p : CallerPhase} (hdistinct : p.events.Nodup) {st st' : StreamPhase} (hst : st ∈ p.streams)
    (hst' : st' ∈ p.streams) {n : Nat} (hn : n ∈ st.events) (hn' : n ∈ st'.events) : st = st' := by
  by_contra hne
  have hsymm : Std.Symm (Function.onFun List.Disjoint StreamPhase.events) := ⟨fun _ _ => List.Disjoint.symm⟩
  exact (List.nodup_flatMap.mp hdistinct).2.forall hst hst' hne hn hn'

/-- No stream forbids the evaluation of the oldest event that one of them owes. -/
theorem CallerPhase.forbids_of_owed {p : CallerPhase} (hdistinct : p.events.Nodup) {st : StreamPhase} (hst : st ∈ p.streams) {n : Nat}
    {later : List Nat} (howed : st.owed = n :: later) : ∀ st' ∈ p.streams, st'.forbids n = false := by
  have hn : n ∈ st.events := List.mem_append_right _ (howed ▸ List.mem_cons_self)
  intro st' hst'
  refine Bool.eq_false_iff.mpr fun hforbids => ?_
  obtain rfl := CallerPhase.eq_of_mem_events hdistinct hst hst' hn (StreamPhase.mem_events_of_forbids hforbids)
  rw [StreamPhase.forbids_of_owed ((List.nodup_flatMap.mp hdistinct).1 st hst) howed] at hforbids
  cases hforbids

theorem CallerPhase.afterEvaluate_of_notMem {p : CallerPhase} {n : Nat} (h : ∀ st ∈ p.streams, n ∉ st.events) (ev : RxEvent) :
    p.afterEvaluate n ev = some p := by
  have hunchanged : p.streams.map (·.afterEvaluate n ev) = p.streams :=
    (List.map_congr_left fun st hst => StreamPhase.afterEvaluate_of_notMem ev (h st hst)).trans (List.map_id' p.streams)
  rw [CallerPhase.afterEvaluate_of_forbids_eq_false ev
    fun st hst => Bool.eq_false_iff.mpr fun hforbids => h st hst (StreamPhase.mem_events_of_forbids hforbids), hunchanged]

/-- Each receive of the run brought an event that the caller still holds. -/
theorem State.exists_received_of_lt {s : State} {n : Nat} (h : n < s.received.length) :
    ∃ back ev, s.received[back]? = some ev ∧ s.receiveNumber back = n := by
  have hback : s.received.length - 1 - n < s.received.length := by omega
  refine ⟨_, _, List.getElem?_eq_getElem hback, ?_⟩
  rw [State.receiveNumber]
  omega

/-- An event that the caller holds can be decoded at any time. -/
theorem exists_step_decodeReceived {s : State} {back : Nat} {ev : RxEvent} (hev : s.received[back]? = some ev) (rest : List Action) :
    ∃ t, step (s.withPending (.decodeReceived back :: rest)) = .next t :=
  ⟨_, ((stepDecodesTheReceivedEvent (s.withPending _) back rest rfl).1 ev hev).trans (exec_eq _ _)⟩

/-- Decoding the event that a stream owes next pays for it and breaks nothing. -/
theorem exists_step_of_owed {s : State} {p : CallerPhase} (hphase : s.callerPhase = some p) (hheld : s.CallerHeld) {st : StreamPhase}
    (hst : st ∈ p.streams) {n : Nat} {later : List Nat} (howed : st.owed = n :: later) :
    ∃ back ev, s.received[back]? = some ev ∧ s.receiveNumber back = n ∧
      ∀ rest, ∃ t, step (s.withPending (.decodeReceived back :: rest)) = .next t ∧
        t.callerPhase = some { p with streams := p.streams.map (·.afterEvaluate n ev) } := by
  have hn : n ∈ p.events := List.mem_flatMap.mpr ⟨st, hst, List.mem_append_right _ (howed ▸ List.mem_cons_self)⟩
  have hlt : n < s.received.length := hheld.receives p hphase ▸ hheld.received p hphase n hn
  obtain ⟨back, ev, hev, hnumber⟩ := State.exists_received_of_lt hlt
  refine ⟨back, ev, hev, hnumber, fun rest => ?_⟩
  obtain ⟨t, hstep⟩ := exists_step_decodeReceived hev rest
  obtain ⟨ev', hev', hafter⟩ := step_decodeReceived_callerPhase (s := s.withPending (.decodeReceived back :: rest)) hphase rfl hstep
  obtain rfl : ev = ev' := Option.some.inj (hev.symm.trans hev')
  refine ⟨t, hstep, hafter.trans ?_⟩
  rw [State.withPending_receiveNumber, hnumber]
  exact CallerPhase.afterEvaluate_of_forbids_eq_false ev (CallerPhase.forbids_of_owed (hheld.distinct p hphase) hst howed)

/-- Settles O51, by what an evaluation of an event makes of the streams: owed next, forbidden, of no stream, or of no receive. -/
theorem everyStreamEventIsPassedOnce : Obligations.EveryStreamEventIsPassedOnce := by
  intro s p hphase
  refine ⟨fun st hst n later hinv howed => ?_, fun t back rest abort hpending hstep hforbidden => ?_,
    fun t back rest hpending hstep hnone => ?_, fun t ev rest hpending hstep => (step_invoke_callerPhase hpending hstep).trans hphase⟩
  · obtain ⟨back, ev, hev, hnumber, hpays⟩ := exists_step_of_owed hphase hinv.caller hst howed
    refine ⟨back, ev, hev, hnumber, fun rest => ?_⟩
    obtain ⟨t, hstep, hafter⟩ := hpays rest
    exact ⟨t, hstep, hafter, StreamPhase.afterEvaluate_of_owed howed ev⟩
  · obtain ⟨st, hst, hmem⟩ := hforbidden
    obtain ⟨ev, -, hafter⟩ := step_decodeReceived_callerPhase hphase hpending hstep
    rw [CallerPhase.afterEvaluate_of_forbids hst (StreamPhase.forbids_iff.mpr hmem)] at hafter
    exact State.not_dutiesKept_of_callerPhase_eq_none abort hafter
  · obtain ⟨ev, -, hafter⟩ := step_decodeReceived_callerPhase hphase hpending hstep
    rw [hafter, CallerPhase.afterEvaluate_of_notMem hnone]

/-! ### A send, and the end of the caller's script (R200, R205) -/

theorem CallerPhase.afterSend_of_streaming {p : CallerPhase} (h : p.streaming = true) (frame : BitVec 64) : p.afterSend frame = none :=
  if_pos (by rw [h, Bool.or_true])

/-- Between commands and streams `READ_RECORDS_START` begins a stream. -/
theorem CallerPhase.afterSend_begins {p : CallerPhase} (hopen : p.commandOpen = false) (hstreaming : p.streaming = false) :
    p.afterSend (commandWord true) = some { p with streams := .begun :: p.streams } := by
  rw [CallerPhase.afterSend, hopen, hstreaming, Bool.or_self, if_neg Bool.false_ne_true, commandWord, if_pos rfl, if_pos rfl]

theorem StreamPhase.settled_eq_false_iff {st : StreamPhase} : st.settled = false ↔ st.running = true ∨ st.owed ≠ [] := by
  rw [StreamPhase.settled, Bool.and_eq_false_iff, Bool.not_eq_false', List.isEmpty_eq_false_iff]

theorem StreamPhase.mayLeave_false (st : StreamPhase) : st.mayLeave false = st.settled := Bool.or_false _

theorem StreamPhase.mayLeave_true_iff {st : StreamPhase} :
    st.mayLeave true = true ↔ (st.running = true ∨ st.owed ≠ [] → st.lastWasBad = true) := by
  rw [← StreamPhase.settled_eq_false_iff, StreamPhase.mayLeave, Bool.true_and]
  cases st.settled <;> simp

/-- A caller with nothing left to do keeps its duties where it may leave every stream. -/
theorem State.dutiesKept_iff_of_pending_eq_nil {s : State} {p : CallerPhase} (hphase : s.callerPhase = some p) (hidle : s.pending = [])
    (abort : Bool) : s.DutiesKept abort ↔ ∀ st ∈ p.streams, st.mayLeave abort = true := by
  rw [← List.all_eq_true]
  refine ⟨fun ⟨q, hq, hleave⟩ => ?_, fun h => ⟨p, hphase, fun _ => h⟩⟩
  obtain rfl : p = q := Option.some.inj (hphase.symm.trans hq)
  exact hleave hidle

/-- Settles O52: what a send and a receive make of the phase, and which streams an idle caller may leave. -/
theorem streamMustBeDrained : Obligations.StreamMustBeDrained := by
  refine ⟨fun s t rest p hphase hopen hstreaming htx hpending hstep => ?_, fun s t rest p st past hphase hstreams hrunning hpending hstep => ?_,
    fun s t rest p abort hphase hstreaming hpending hstep => ?_, fun s p hphase hidle hunsettled => ⟨fun hkept => ?_, ?_⟩⟩
  · rw [step_send_callerPhase hphase hpending hstep, htx, ← commandWord_true, CallerPhase.afterSend_begins hopen hstreaming]
  · rw [step_recv_callerPhase hphase hpending hstep, CallerPhase.afterReceive, hstreams]
    exact congrArg (fun latest => some (CallerPhase.mk false (p.receives + 1) (latest :: past)))
      (StreamPhase.afterReceive_of_running hrunning _ _)
  · exact State.not_dutiesKept_of_callerPhase_eq_none abort
      ((step_send_callerPhase hphase hpending hstep).trans (CallerPhase.afterSend_of_streaming hstreaming _))
  · obtain ⟨st, hst, hopen⟩ := hunsettled
    have hsettled := (State.dutiesKept_iff_of_pending_eq_nil hphase hidle false).mp hkept st hst
    rw [StreamPhase.mayLeave_false, StreamPhase.settled_eq_false_iff.mpr hopen] at hsettled
    cases hsettled
  · simp only [State.dutiesKept_iff_of_pending_eq_nil hphase hidle true, StreamPhase.mayLeave_true_iff]

end Sys2Proof.Machine
end
